-- ==== Sys2Proof/Machine/FlickRom0.lean ====
section
/-! DEFINITION. The flicker ROM `FLICK`, entries 0x0000 to 0x3FFF: 43_flicker_rom_0.md rule R200, line for line.
A row is one line of the spec's listing, 64 entries of two hexadecimal digits read as one number, so that the row's first
entry is its most significant byte. A page is 16 rows, 1024 entries. `Machine/Flicker.lean` reads the table. -/

namespace Sys2Proof.Machine

/-- Entries 0x0000 to 0x03FF (R200). -/
def flickPage0000 : List Nat := [
  0x0D0F1214181B1F22272B30343A3F444A50565C626464646464646464646464646464646464646464646464646464646464646464646464646464646464645D54,
  0x4B41382F261D140B0A0A0A0A0A0A0A0A0A0A0A0A0A0A0A0A0A0A0A0A0A0A0A0A0A0A0A0A0A0A0A0A0A0A0A0A0A0A0A0A0A0A0A0A0A0C0F111416171819191919,
  0x18171514110F0C0A0A0A0A0A0A0A0A0A0A0A0A0A0A0A0A0A0A0A0A0A0A0A0A0A0A0A0A0A0A0A0A0A0A0A0A0A0A0A0A0A0A0A0A0A0A0A0A0A0A0A0A0A0A0A0A0A,
  0x0A0A0A0A0A0A0A0A0A0A0A0A0A0A0A0A0A0A0A0A0A0A0A0A0A0A0A0A0A0A0A0A0A0A0A0A0A0A0A0A0A0A0A0A0A0A0A0A0A0A0A0A0A0A0B0C0E0F101112131415,
  0x15151616151515141312110F0E0C0A0A0A0A0A0A0A0A0A0A0A0A0A0A0A0A0A0A0A0A0A0A0A0A0A0A0A0A0A0A0A0A0A0A0A0A0A0A0A0A0A0A0A0A0A0A0A0A0A0A,
  0x0A0A0A0A0A0A0B0D0E1011121314141515151515151413131211100F0E0D0C0B0A0A0A0A0A0A0A0A0A0A0A0A0A0A0A0A0A0A0A0A0A0A0A0A0A0A0A0A0A0A0A0A,
  0x0A0B0C0D0E0F101112131314141415151515151414141313121110100F0E0D0C0B0A0A0A0A0A0A0A0A0A0A0A0A0A0A0A0A0A0A0A0A0A0A0A0A0A0A0A0A0A0A0A,
  0x0A0A0A0A0A0A0A0A0A0A0A0A0A0A0A0A0A0A0A0A0A0A0A0A0A0A0A0A0A0A0A0A0A0A0A0A0A0A0A0A0A0B0F13181D22282E343B42495058606464646464646464,
  0x64646464646464646464646464646464646464646464646464646464646464646464646464646464646464646462584E453B32292119110A0A0A0A0A0A0A0A0A,
  0x0A0A0A0A0A0A0A0A0A0A0A0A0A0A0A0A0A0A0A0A0A0A0A0A0A0A0A0A0A0A0A0A0A0A0A0A0A0A0A0A0A0A0A0A0A0A0A0A0A0A0A0A0A0A0A0A0A0A0A0A0A0A0A0A,
  0x0A0A0A0A0A0A0A0A0A0A0A0A0A0A0A0A0A0A0A0A0A0A0A0A0A0A0A0A0A0A0A0A0A0A0A0A0A0A0A0A0A0A0A0A0A0A0A0A0A0A0A0A0A0A0A0A0A0A0A0A0A0A0A0A,
  0x0A0A0A0A0A0A0A0A0A0A0A0A0A0A0A0A0A0A0A0A0A0A0A0A0A0A0A0A0A0A0A0A0A0A0A0A0A0A0A0A0A0A0A0A0A0A0A0A0A0A0A0A0A0A0A0A0A0A0A0A0A0A0A0A,
  0x0A0A0A0A0A0A0A0A0A0A0A0A0A0A0A0A0A0A0A0A0A0A0A0A0A0A0A0A0A0A0A0A0A0A0A0A0A0A0A0A0A0A0A0A0A0A0A0A0A0A0A0A0A0A0A0A0A0A0A0A0A0A0A0A,
  0x0A0A0A0A0A0A0A0A0A0A0A0A0A0A0A0A0A0A0A0A0A0A0A0A0A0A0A0A0A0A0A0A0A0A0A0A0A0A0A0A0A0A0B0B0C0C0C0D0D0D0D0D0C0C0C0B0B0A0A0A0A0A0A0A,
  0x0A0A0A0A0A0A0A0A0A0A0A0A0A0A0A0A0A0A0A0A0A0A0A0A0A0A0A0A0A0A0A0A0A0A0A0A0A0A0A0A0A0A0A0A0A0A0A0A0A0A0A0A0A0A0A0A0A0A0A0A0A0A0A0A,
  0x0A0A0A0A0A0A0A0A0A0A0A0A0A0A0A0A0A0A0A0A0A0A0A0A0F161D252D363F48515B646464646464646464646464646464646464646464646464646464646464]

/-- Entries 0x0400 to 0x07FF (R200). -/
def flickPage0400 : List Nat := [
  0x646464646464646464646464646464646464646464646464625A5149413A322C251F1914100B0A0A0A0A0A0A0A0A0A0A0A0A0A0A0A0A0A0A0A0A0A0A0A0A0A0B,
  0x0C0D0E0F0F1010100F0F0E0D0C0A0A0A0A0A0A0A0A0A0A0A0A0A0A0A0A0A0A0A0A0A0A0A0A0A0A0A0A0A0A0A0A0A0A0A0A0A0A0A0A0A0A0A0A0A0A0A0A0A0A0A,
  0x0A0A0A0A0A0A0A0A0A0A0A0A0B0C0D0E0F0F101010100F0F0E0D0D0C0B0A0A0A0A0A0A0A0A0A0A0A0A0A0A0A0A0A0A0A0A0A0A0A0A0A0A0A0A0A0A0A0A0A0A0A,
  0x0A0A0A0A0A0A0A0A0A0A0A0A0A0A0A0A0A0A0A0A0A0A0A0A0A0A0A0A0A0A0A0A0A0A0A0A0A0A0A0A0A0A0A0A0A0A0A0A0A0A0A0A0A0A0A0A0A0A0A0A0A0A0A0A,
  0x0A0A0A0A0A0A0A0A0A0A0A0A0A0A0A0A0A0A0A0A0A0A0A0A0A0A0A0A0A0A0A0A0A0A0A0A0A0A0A0A0A0A0A0A0A0A0A0A0A0A0A0A0A0A0A0A0A0A0A0A0A0A0A0A,
  0x0A0A0A0A0A0A0A0A0A0A0A0A0A0A0A0A0A0A0A0A0A0A0A0A0A0A0A0A0A0A0A0A0A0A0A0A0A0A0A0A0A0A0A0A0A0A0A0A0A0A0A0A0A0A0A0A0A0A0A0B0D0E1011,
  0x13151618191A1C1D1D1E1F1F1F1F1F1F1E1D1C1A181614120F0C0A0A0A0A0A0A0A0A0A0A0A0A0A0A0A0A0A0A0A0A0A0A0A0A0A0A0A0A0A0A0A0A0A0A0A0A0A0A,
  0x0A0A0A0A0A0A0A0A131C252E38414B545E646464646464646464646464646464646464646464646464646464646464646464646464646464646464645F575049,
  0x423B352F29231E1915110D0A0A0A0A0A0A0A0A0A0A0A0A0A0A0A0A0A0A0A0A0B0D0F1113141618191A1C1D1D1E1E1E1E1E1E1D1C1B1A18171513110F0D0B0A0A,
  0x0A0A0A0A0A0A0A0A0A0A0A0A0A0A0A0A0A0A0A0A0A0A0A0A0A0A0A0A0A0A0A0A0A0A0A0C0F111315181A1B1D1F202122232425252525252524232221201F1E1C,
  0x1B1917161412110F0D0C0A0A0A0A0A0A0A0A0A0A0A0A0A0A0A0A0A0A0A0A0A0A0A0A0A0A0A0A0B0B0C0D0E0F0F0F101010100F0F0E0E0D0C0A0A0A0A0A0A0A0A,
  0x0A0A0A0A0A0A0A0A0A0A0A0A0A0A0A0A0A0A0A0A0A0A0A0A0A0A0A0A0A0A0A0A0A0A0A0A0A0A0A0A0A0A0A0A0A0A0A0A0A0A0A0A0A0A0A0A0A0A0A0A0A0A0A0A,
  0x0A0A0A0A0A0A0A0A0A0A0A0A0A0A0A0A0A0A0A0A0A0A0A0A0A0A0A0A0A0A0A0A0A0A0A0A0A0A0A0A0A0A0A0A0A0A0A0A0A0A0A0A0A0A0A0A0A0A0A0A0A0A0A0A,
  0x0A0A0A0A0A0A0A0A0A0A0A0A0A0A0A0A0A0A0A0A0C0E111315181B1E2124282B2F32363A3D4144484B4E5254575A5C5E606163636464646362615F5D5A575450,
  0x4C47423D37322B251F18110A0A0A0A0A0A0A0A0A0A0A0A0A0A0A0A0A0A0A0A0A0A0A0A0A0A0A0A0A0A0A0A0A0A0A0A0A0A0A0A0A0A0A0A0A10181F262D343B41,
  0x474C52565B5F62646464646464646464646464615E5B56524E49443E39332E28221D17120C0A0A0A0A0A0A0A0A0A0A0A0A0A0A0A0A0A0A0A0A0A0A0A0A0A0A0A]

/-- Entries 0x0800 to 0x0BFF (R200). -/
def flickPage0800 : List Nat := [
  0x0A0A0A0A0A0A0A0A0A0A0A0A0A0B0D0F111214151617171818181817171615141312110F0E0D0B0A0A0A0A0A0A0A0A0A0A0A0A0A0A0A0A0A0A0A0A0A0A0A0A0A,
  0x0C0D0F11131517181A1C1E1F21222325262627282828282828272625242322201F1D1B19171513110F0D0B0A0A0A0A0A0A0A0A0A0A0A0A0A0A0A0A0A0A0A0A0A,
  0x0A0A0A0A0A0A0A0A0A0A0A0A0C0D0F10121314161717181919191919191918171716141312100F0D0B0A0A0A0A0A0A0A0A0A0A0A0A0A0A0A0A0A0A0A0A0A0A0A,
  0x0A0A0A0A0A0A0A0A0A0A0A0A0A0A0A0A0A0A0A0A0A0A0A0A0A0A0B0C0D0E0F0F101011111111111010100F0F0E0D0D0C0B0A0A0A0A0A0A0A0A0A0A0A0A0A0A0A,
  0x0A0A0A0A0A0A0A0A0A0A0A0A0A0A0A0A0A0A0A0A0A0A0A0A0A0A0A0A0A0A0A0A0A0A0A0A0A0A0A0A0A0A0A0A0A0A0A0A0A0A0A0A0C0E1114171A1E22262A2F34,
  0x393E43494F545A606464646464646464646464646464646464646464646464646464646464646464646464646464646464645E554C433A31281F160D0A0A0A0A,
  0x0A0A0A0A0A0A0A0A0A0A0A0A0A0A0A0A0A0A0A0A0A0A0A0A0A0A0A0A0A0A0A0A0A0A0A0A0A0A0A0A0A0B0E11131517181919191918171614120F0C0A0A0A0A0A,
  0x0A0A0A0A0A0A0A0A0A0A0A0A0A0A0A0A0A0A0A0A0A0A0A0A0A0A0A0A0A0A0A0A0A0A0A0A0A0A0A0A0A0A0A0A0A0A0A0A0A0A0A0A0A0A0A0A0A0A0A0A0A0A0A0A,
  0x0A0A0A0A0A0A0A0A0A0A0A0A0A0A0A0A0A0A0A0A0A0A0A0A0A0A0A0A0A0A0A0A0A0A0A0A0A0A0A0A0A0A0B0C0E0F101112131414151516161515151413121110,
  0x0E0D0B0A0A0A0A0A0A0A0A0A0A0A0A0A0A0A0A0A0A0A0A0A0A0A0A0A0A0A0A0A0A0A0A0A0A0A0A0A0A0A0A0A0A0A0A0A0A0A0A0A0A0A0A0A0A0A0B0D0E101112,
  0x1314141515151515151414131211100F0E0D0C0B0A0A0A0A0A0A0A0A0A0A0A0A0A0A0A0A0A0A0A0A0A0A0A0A0A0A0A0A0A0A0A0A0A0B0C0D0E0F101112121314,
  0x141415151515151414141313121111100F0E0D0C0B0A0A0A0A0A0A0A0A0A0A0A0A0A0A0A0A0A0A0A0A0A0A0A0A0A0A0A0A0A0A0A0A0A0A0A0A0A0A0A0A0A0A0A,
  0x0A0A0A0A0A0A0A0A0A0A0A0A0A0A0A0A0A0A0A0A0A0A0A0A0A0A0A0A0A0A0E12171C21272C333940484F575F6464646464646464646464646464646464646464,
  0x646464646464646464646464646464646464646464646464646464646464646464645A50463D342B221A120B0A0A0A0A0A0A0A0A0A0A0A0A0A0A0A0A0A0A0A0A,
  0x0A0A0A0A0A0A0A0A0A0A0A0A0A0A0A0A0A0A0A0A0A0A0A0A0A0A0A0A0A0A0A0A0A0A0A0A0A0A0A0A0A0A0A0A0A0A0A0A0A0A0A0A0A0A0A0A0A0A0A0A0A0A0A0A,
  0x0A0A0A0A0A0A0A0A0A0A0A0A0A0A0A0A0A0A0A0A0A0A0A0A0A0A0A0A0A0A0A0A0A0A0A0A0A0A0A0A0A0A0A0A0A0A0A0A0A0A0A0A0A0A0A0A0A0A0A0A0A0A0A0A]

/-- Entries 0x0C00 to 0x0FFF (R200). -/
def flickPage0C00 : List Nat := [
  0x0A0A0A0A0A0A0A0A0A0A0A0A0A0A0A0A0A0A0A0A0A0A0A0A0A0A0A0A0A0A0A0A0A0A0A0A0A0A0A0A0A0A0A0A0A0A0A0A0A0A0A0A0A0A0A0A0A0A0A0A0A0A0A0A,
  0x0A0A0A0A0A0A0A0A0A0A0A0A0A0A0A0A0A0A0A0A0A0A0A0A0A0A0A0A0A0A0A0A0A0A0A0A0A0A0A0A0A0A0A0A0A0A0A0A0A0A0A0A0A0A0A0A0A0A0A0A0A0A0A0A,
  0x0A0A0A0A0A0A0A0A0A0A0A0A0A0A0A0A0A0A0A0A0A0A0A0A0A0A0A0A0A0A0B0B0C0C0C0D0D0D0D0D0C0C0C0B0B0A0A0A0A0A0A0A0A0A0A0A0A0A0A0A0A0A0A0A,
  0x0A0A0A0A0A0A0A0A0A0A0A0A0A0A0A0A0A0A0A0A0A0A0A0A0A0A0A0A0A0A0A0A0A0A0A0A0A0A0A0A0A0A0A0A0A0A0A0A0A0A0A0A0A0A0A0A0A0A0A0A0A0A0A0A,
  0x0A0A0A0A0A0A0A0A0A0A0A0A0D141C242C343D464F59626464646464646464646464646464646464646464646464646464646464646464646464646464646464,
  0x646464646464646464646464645B534A433B342D26201B15100C0A0A0A0A0A0A0A0A0A0A0A0A0A0A0A0A0A0A0A0A0A0A0A0A0A0B0C0D0E0F0F1010100F0F0E0D,
  0x0C0A0A0A0A0A0A0A0A0A0A0A0A0A0A0A0A0A0A0A0A0A0A0A0A0A0A0A0A0A0A0A0A0A0A0A0A0A0A0A0A0A0A0A0A0A0A0A0A0A0A0A0A0A0A0A0A0A0A0A0A0A0A0A,
  0x0A0C0D0E0F0F101010100F0F0E0E0D0C0B0A0A0A0A0A0A0A0A0A0A0A0A0A0A0A0A0A0A0A0A0A0A0A0A0A0A0A0A0A0A0A0A0A0A0A0A0A0A0A0A0A0A0A0A0A0A0A,
  0x0A0A0A0A0A0A0A0A0A0A0A0A0A0A0A0A0A0A0A0A0A0A0A0A0A0A0A0A0A0A0A0A0A0A0A0A0A0A0A0A0A0A0A0A0A0A0A0A0A0A0A0A0A0A0A0A0A0A0A0A0A0A0A0A,
  0x0A0A0A0A0A0A0A0A0A0A0A0A0A0A0A0A0A0A0A0A0A0A0A0A0A0A0A0A0A0A0A0A0A0A0A0A0A0A0A0A0A0A0A0A0A0A0A0A0A0A0A0A0A0A0A0A0A0A0A0A0A0A0A0A,
  0x0A0A0A0A0A0A0A0A0A0A0A0A0A0A0A0A0A0A0A0A0A0A0A0A0A0A0A0A0A0A0A0A0A0A0A0A0A0A0A0A0A0A0A0A0A0A0A0B0C0E101113141617191A1B1C1D1E1F1F,
  0x1F1F1F1F1E1D1C1A191715120F0C0A0A0A0A0A0A0A0A0A0A0A0A0A0A0A0A0A0A0A0A0A0A0A0A0A0A0A0A0A0A0A0A0A0A0A0A0A0A0A0A0A0A0A0A0A0A111A232C,
  0x363F49525C646464646464646464646464646464646464646464646464646464646464646464646464646464646464646059514A433D36302A241F1A16110E0A,
  0x0A0A0A0A0A0A0A0A0A0A0A0A0A0A0A0A0A0A0A0B0D0F1012141617191A1B1C1D1E1E1E1E1E1E1D1C1B1A19171513120F0D0B0A0A0A0A0A0A0A0A0A0A0A0A0A0A,
  0x0A0A0A0A0A0A0A0A0A0A0A0A0A0A0A0A0A0A0A0A0A0A0A0C0E11131517191B1D1E202122232425252525252524232322211F1E1D1B1918161413110F0D0C0A0A,
  0x0A0A0A0A0A0A0A0A0A0A0A0A0A0A0A0A0A0A0A0A0A0A0A0A0A0A0A0B0C0D0E0E0F0F10101010100F0F0E0D0C0B0A0A0A0A0A0A0A0A0A0A0A0A0A0A0A0A0A0A0A]

/-- Entries 0x1000 to 0x13FF (R200). -/
def flickPage1000 : List Nat := [
  0x0A0A0A0A0A0A0A0A0A0A0A0A0A0A0A0A0A0A0A0A0A0A0A0A0A0A0A0A0A0A0A0A0A0A0A0A0A0A0A0A0A0A0A0A0A0A0A0A0A0A0A0A0A0A0A0A0A0A0A0A0A0A0A0A,
  0x0A0A0A0A0A0A0A0A0A0A0A0A0A0A0A0A0A0A0A0A0A0A0A0A0A0A0A0A0A0A0A0A0A0A0A0A0A0A0A0A0A0A0A0A0A0A0A0A0A0A0A0A0A0A0A0A0A0A0A0A0A0A0A0A,
  0x0A0A0A0A0A0A0A0A0C0E101215181A1D2124272B2E3235393C4044474A4E515457595C5E606162636464646362615F5D5B5854504C48433E38332D262019130C,
  0x0A0A0A0A0A0A0A0A0A0A0A0A0A0A0A0A0A0A0A0A0A0A0A0A0A0A0A0A0A0A0A0A0A0A0A0A0A0A0A0A0A0A0A0A0F161E252C333940464B51555A5E616464646464,
  0x64646464646464625F5B57534E4A453F3A342F29231E18130D0A0A0A0A0A0A0A0A0A0A0A0A0A0A0A0A0A0A0A0A0A0A0A0A0A0A0A0A0A0A0A0A0A0A0A0A0A0A0A,
  0x0A0B0D0F11121415161717181818181717161514131211100E0D0C0A0A0A0A0A0A0A0A0A0A0A0A0A0A0A0A0A0A0A0A0A0A0A0A0A0B0D0F11121416181A1C1D1F,
  0x20222324252627282828282828272626252322211F1D1C1A181614120F0D0B0A0A0A0A0A0A0A0A0A0A0A0A0A0A0A0A0A0A0A0A0A0A0A0A0A0A0A0A0A0A0A0A0A,
  0x0C0D0F10121314151617181919191919191918181716151312110F0D0C0A0A0A0A0A0A0A0A0A0A0A0A0A0A0A0A0A0A0A0A0A0A0A0A0A0A0A0A0A0A0A0A0A0A0A,
  0x0A0A0A0A0A0A0A0A0A0A0A0A0A0A0B0C0D0E0F0F101010111111111010100F0F0E0D0D0C0B0A0A0A0A0A0A0A0A0A0A0A0A0A0A0A0A0A0A0A0A0A0A0A0A0A0A0A,
  0x0A0A0A0A0A0A0A0A0A0A0A0A0A0A0A0A0A0A0A0A0A0A0A0A0A0A0A0A0A0A0A0A0A0A0A0A0A0A0A0A0C0E1013161A1D2125292E33383D42484D53595F64646464,
  0x646464646464646464646464646464646464646464646464646464646464646464646464646460574E453C332A21180F0A0A0A0A0A0A0A0A0A0A0A0A0A0A0A0A,
  0x0A0A0A0A0A0A0A0A0A0A0A0A0A0A0A0A0A0A0A0A0A0A0A0A0A0A0A0A0A0B0E1113151718191919191918161412100D0A0A0A0A0A0A0A0A0A0A0A0A0A0A0A0A0A,
  0x0A0A0A0A0A0A0A0A0A0A0A0A0A0A0A0A0A0A0A0A0A0A0A0A0A0A0A0A0A0A0A0A0A0A0A0A0A0A0A0A0A0A0A0A0A0A0A0A0A0A0A0A0A0A0A0A0A0A0A0A0A0A0A0A,
  0x0A0A0A0A0A0A0A0A0A0A0A0A0A0A0A0A0A0A0A0A0A0A0A0A0A0A0A0A0A0A0B0C0D0F1011121314141515151615151514131211100E0D0B0A0A0A0A0A0A0A0A0A,
  0x0A0A0A0A0A0A0A0A0A0A0A0A0A0A0A0A0A0A0A0A0A0A0A0A0A0A0A0A0A0A0A0A0A0A0A0A0A0A0A0A0A0A0A0A0A0A0B0C0E0F1112131314151515151515141413,
  0x121111100E0D0C0B0A0A0A0A0A0A0A0A0A0A0A0A0A0A0A0A0A0A0A0A0A0A0A0A0A0A0A0A0A0A0A0A0A0B0C0D0E0F101112121313141415151515151414141313]

/-- Entries 0x1400 to 0x17FF (R200). -/
def flickPage1400 : List Nat := [
  0x121111100F0E0D0C0B0A0A0A0A0A0A0A0A0A0A0A0A0A0A0A0A0A0A0A0A0A0A0A0A0A0A0A0A0A0A0A0A0A0A0A0A0A0A0A0A0A0A0A0A0A0A0A0A0A0A0A0A0A0A0A,
  0x0A0A0A0A0A0A0A0A0A0A0A0A0A0A0A0A0A0A0D11161B20252B32383F464E555D6464646464646464646464646464646464646464646464646464646464646464,
  0x646464646464646464646464646464646464646464645C52483F362D241C140C0A0A0A0A0A0A0A0A0A0A0A0A0A0A0A0A0A0A0A0A0A0A0A0A0A0A0A0A0A0A0A0A,
  0x0A0A0A0A0A0A0A0A0A0A0A0A0A0A0A0A0A0A0A0A0A0A0A0A0A0A0A0A0A0A0A0A0A0A0A0A0A0A0A0A0A0A0A0A0A0A0A0A0A0A0A0A0A0A0A0A0A0A0A0A0A0A0A0A,
  0x0A0A0A0A0A0A0A0A0A0A0A0A0A0A0A0A0A0A0A0A0A0A0A0A0A0A0A0A0A0A0A0A0A0A0A0A0A0A0A0A0A0A0A0A0A0A0A0A0A0A0A0A0A0A0A0A0A0A0A0A0A0A0A0A,
  0x0A0A0A0A0A0A0A0A0A0A0A0A0A0A0A0A0A0A0A0A0A0A0A0A0A0A0A0A0A0A0A0A0A0A0A0A0A0A0A0A0A0A0A0A0A0A0A0A0A0A0A0A0A0A0A0A0A0A0A0A0A0A0A0A,
  0x0A0A0A0A0A0A0A0A0A0A0A0A0A0A0A0A0A0A0A0A0A0A0A0A0A0A0A0A0A0A0A0A0A0A0A0A0A0A0A0A0A0A0A0A0A0A0A0A0A0A0A0A0A0A0A0A0A0A0A0A0A0A0A0A,
  0x0A0A0A0A0A0A0A0A0A0A0A0A0A0A0A0A0A0A0B0B0C0C0C0D0D0D0D0D0C0C0C0C0B0B0A0A0A0A0A0A0A0A0A0A0A0A0A0A0A0A0A0A0A0A0A0A0A0A0A0A0A0A0A0A,
  0x0A0A0A0A0A0A0A0A0A0A0A0A0A0A0A0A0A0A0A0A0A0A0A0A0A0A0A0A0A0A0A0A0A0A0A0A0A0A0A0A0A0A0A0A0A0A0A0A0A0A0A0A0A0A0A0A0A0A0A0A0A0A0A0A,
  0x0C131A222A333B444D57606464646464646464646464646464646464646464646464646464646464646464646464646464646464646464646464646464646464,
  0x645D544C443C352E28211C16110D0A0A0A0A0A0A0A0A0A0A0A0A0A0A0A0A0A0A0A0A0A0A0A0A0A0A0C0D0E0F0F101010100F0E0D0C0B0A0A0A0A0A0A0A0A0A0A,
  0x0A0A0A0A0A0A0A0A0A0A0A0A0A0A0A0A0A0A0A0A0A0A0A0A0A0A0A0A0A0A0A0A0A0A0A0A0A0A0A0A0A0A0A0A0A0A0A0A0A0A0A0A0A0B0D0E0E0F0F1010100F0F,
  0x0E0E0D0C0B0A0A0A0A0A0A0A0A0A0A0A0A0A0A0A0A0A0A0A0A0A0A0A0A0A0A0A0A0A0A0A0A0A0A0A0A0A0A0A0A0A0A0A0A0A0A0A0A0A0A0A0A0A0A0A0A0A0A0A,
  0x0A0A0A0A0A0A0A0A0A0A0A0A0A0A0A0A0A0A0A0A0A0A0A0A0A0A0A0A0A0A0A0A0A0A0A0A0A0A0A0A0A0A0A0A0A0A0A0A0A0A0A0A0A0A0A0A0A0A0A0A0A0A0A0A,
  0x0A0A0A0A0A0A0A0A0A0A0A0A0A0A0A0A0A0A0A0A0A0A0A0A0A0A0A0A0A0A0A0A0A0A0A0A0A0A0A0A0A0A0A0A0A0A0A0A0A0A0A0A0A0A0A0A0A0A0A0A0A0A0A0A,
  0x0A0A0A0A0A0A0A0A0A0A0A0A0A0A0A0A0A0A0A0A0A0A0A0A0A0A0A0A0A0A0A0A0A0A0A0A0C0E0F1112141617191A1B1C1D1E1F1F1F1F1F1F1E1D1C1B19171513]

/-- Entries 0x1800 to 0x1BFF (R200). -/
def flickPage1800 : List Nat := [
  0x100D0A0A0A0A0A0A0A0A0A0A0A0A0A0A0A0A0A0A0A0A0A0A0A0A0A0A0A0A0A0A0A0A0A0A0A0A0A0A0A0A0A0A0A0A0A0A0F18212B343D47505A63646464646464,
  0x646464646464646464646464646464646464646464646464646464646464646464646464625A534C453E37312B25201B16120E0B0A0A0A0A0A0A0A0A0A0A0A0A,
  0x0A0A0A0A0A0A0A0A0C0E1012141617191A1B1C1D1E1E1E1E1E1E1D1C1B1A1917161412100E0C0A0A0A0A0A0A0A0A0A0A0A0A0A0A0A0A0A0A0A0A0A0A0A0A0A0A,
  0x0A0A0A0A0A0A0A0A0A0A0A0B0E10121517191B1C1E20212223242425252525252424232221201E1D1B1A18161513110F0E0C0B0A0A0A0A0A0A0A0A0A0A0A0A0A,
  0x0A0A0A0A0A0A0A0A0A0A0A0A0A0A0A0B0C0D0E0E0F0F10101010100F0F0E0D0C0B0A0A0A0A0A0A0A0A0A0A0A0A0A0A0A0A0A0A0A0A0A0A0A0A0A0A0A0A0A0A0A,
  0x0A0A0A0A0A0A0A0A0A0A0A0A0A0A0A0A0A0A0A0A0A0A0A0A0A0A0A0A0A0A0A0A0A0A0A0A0A0A0A0A0A0A0A0A0A0A0A0A0A0A0A0A0A0A0A0A0A0A0A0A0A0A0A0A,
  0x0A0A0A0A0A0A0A0A0A0A0A0A0A0A0A0A0A0A0A0A0A0A0A0A0A0A0A0A0A0A0A0A0A0A0A0A0A0A0A0A0A0A0A0A0A0A0A0A0A0A0A0A0A0A0A0A0A0A0A0A0B0D1012,
  0x14171A1D2023262A2D3134383C3F43464A4D505356595B5D5F616263646464646361605E5B5855514D49443F39342E28211B140D0A0A0A0A0A0A0A0A0A0A0A0A,
  0x0A0A0A0A0A0A0A0A0A0A0A0A0A0A0A0A0A0A0A0A0A0A0A0A0A0A0A0A0A0A0A0A0D151C232B31383E444A5055595D61646464646464646464646464635F5C5854,
  0x4F4B46403B35302A251F19140E0A0A0A0A0A0A0A0A0A0A0A0A0A0A0A0A0A0A0A0A0A0A0A0A0A0A0A0A0A0A0A0A0A0A0A0A0A0A0A0A0A0C0E1012131516161717,
  0x1818181717161514131211100F0D0C0A0A0A0A0A0A0A0A0A0A0A0A0A0A0A0A0A0A0A0A0A0A0A0A0A0B0D0E1012141618191B1D1F202223242526272728282828,
  0x28272726252422211F1E1C1A18161412100E0C0A0A0A0A0A0A0A0A0A0A0A0A0A0A0A0A0A0A0A0A0A0A0A0A0A0A0A0A0A0A0A0A0A0B0D0E101113141516171818,
  0x19191919191918181716151412110F0E0C0A0A0A0A0A0A0A0A0A0A0A0A0A0A0A0A0A0A0A0A0A0A0A0A0A0A0A0A0A0A0A0A0A0A0A0A0A0A0A0A0A0A0A0A0A0A0A,
  0x0A0A0B0C0D0E0E0F101010111111111010100F0F0E0E0D0C0B0A0A0A0A0A0A0A0A0A0A0A0A0A0A0A0A0A0A0A0A0A0A0A0A0A0A0A0A0A0A0A0A0A0A0A0A0A0A0A,
  0x0A0A0A0A0A0A0A0A0A0A0A0A0A0A0A0A0A0A0A0A0A0A0A0A0A0A0A0A0B0D101316191C2024282D32373C41474C52585E64646464646464646464646464646464,
  0x6464646464646464646464646464646464646464646464646464625950473E342B2219100A0A0A0A0A0A0A0A0A0A0A0A0A0A0A0A0A0A0A0A0A0A0A0A0A0A0A0A]

/-- Entries 0x1C00 to 0x1FFF (R200). -/
def flickPage1C00 : List Nat := [
  0x0A0A0A0A0A0A0A0A0A0A0A0A0A0A0A0A0A0A0D1012151618191919191918161513100E0B0A0A0A0A0A0A0A0A0A0A0A0A0A0A0A0A0A0A0A0A0A0A0A0A0A0A0A0A,
  0x0A0A0A0A0A0A0A0A0A0A0A0A0A0A0A0A0A0A0A0A0A0A0A0A0A0A0A0A0A0A0A0A0A0A0A0A0A0A0A0A0A0A0A0A0A0A0A0A0A0A0A0A0A0A0A0A0A0A0A0A0A0A0A0A,
  0x0A0A0A0A0A0A0A0A0A0A0A0A0A0A0A0A0A0A0A0C0D0E1011121314141515151615151514131311100F0D0B0A0A0A0A0A0A0A0A0A0A0A0A0A0A0A0A0A0A0A0A0A,
  0x0A0A0A0A0A0A0A0A0A0A0A0A0A0A0A0A0A0A0A0A0A0A0A0A0A0A0A0A0A0A0A0A0A0A0A0C0E0F1012121314151515151515141413121211100F0E0C0B0A0A0A0A,
  0x0A0A0A0A0A0A0A0A0A0A0A0A0A0A0A0A0A0A0A0A0A0A0A0A0A0A0A0A0A0B0C0D0E0F101111121313141415151515151514141313121211100F0E0D0C0C0B0A0A,
  0x0A0A0A0A0A0A0A0A0A0A0A0A0A0A0A0A0A0A0A0A0A0A0A0A0A0A0A0A0A0A0A0A0A0A0A0A0A0A0A0A0A0A0A0A0A0A0A0A0A0A0A0A0A0A0A0A0A0A0A0A0A0A0A0A,
  0x0A0A0A0A0A0A0C10151A1F242A30373E454C545C6464646464646464646464646464646464646464646464646464646464646464646464646464646464646464,
  0x646464646464646464645E544A41372E261D150E0A0A0A0A0A0A0A0A0A0A0A0A0A0A0A0A0A0A0A0A0A0A0A0A0A0A0A0A0A0A0A0A0A0A0A0A0A0A0A0A0A0A0A0A,
  0x0A0A0A0A0A0A0A0A0A0A0A0A0A0A0A0A0A0A0A0A0A0A0A0A0A0A0A0A0A0A0A0A0A0A0A0A0A0A0A0A0A0A0A0A0A0A0A0A0A0A0A0A0A0A0A0A0A0A0A0A0A0A0A0A,
  0x0A0A0A0A0A0A0A0A0A0A0A0A0A0A0A0A0A0A0A0A0A0A0A0A0A0A0A0A0A0A0A0A0A0A0A0A0A0A0A0A0A0A0A0A0A0A0A0A0A0A0A0A0A0A0A0A0A0A0A0A0A0A0A0A,
  0x0A0A0A0A0A0A0A0A0A0A0A0A0A0A0A0A0A0A0A0A0A0A0A0A0A0A0A0A0A0A0A0A0A0A0A0A0A0A0A0A0A0A0A0A0A0A0A0A0A0A0A0A0A0A0A0A0A0A0A0A0A0A0A0A,
  0x0A0A0A0A0A0A0A0A0A0A0A0A0A0A0A0A0A0A0A0A0A0A0A0A0A0A0A0A0A0A0A0A0A0A0A0A0A0A0A0A0A0A0A0A0A0A0A0A0A0A0A0A0A0A0A0A0A0A0A0A0A0A0A0A,
  0x0A0A0A0A0A0A0B0B0C0C0C0C0D0D0D0D0D0C0C0C0B0B0A0A0A0A0A0A0A0A0A0A0A0A0A0A0A0A0A0A0A0A0A0A0A0A0A0A0A0A0A0A0A0A0A0A0A0A0A0A0A0A0A0A,
  0x0A0A0A0A0A0A0A0A0A0A0A0A0A0A0A0A0A0A0A0A0A0A0A0A0A0A0A0A0A0A0A0A0A0A0A0A0A0A0A0A0A0A0A0A0A0A0A0A0A0A0A0A0B11192028313A424C555F64,
  0x64646464646464646464646464646464646464646464646464646464646464646464646464646464646464646464646464646464645F564E463E362F29231D17,
  0x120E0A0A0A0A0A0A0A0A0A0A0A0A0A0A0A0A0A0A0A0A0A0A0A0A0A0A0B0D0E0E0F101010100F0E0E0C0B0A0A0A0A0A0A0A0A0A0A0A0A0A0A0A0A0A0A0A0A0A0A]

/-- Entries 0x2000 to 0x23FF (R200). -/
def flickPage2000 : List Nat := [
  0x0A0A0A0A0A0A0A0A0A0A0A0A0A0A0A0A0A0A0A0A0A0A0A0A0A0A0A0A0A0A0A0A0A0A0A0A0A0A0A0A0A0B0C0D0E0F0F101010100F0F0E0D0C0B0A0A0A0A0A0A0A,
  0x0A0A0A0A0A0A0A0A0A0A0A0A0A0A0A0A0A0A0A0A0A0A0A0A0A0A0A0A0A0A0A0A0A0A0A0A0A0A0A0A0A0A0A0A0A0A0A0A0A0A0A0A0A0A0A0A0A0A0A0A0A0A0A0A,
  0x0A0A0A0A0A0A0A0A0A0A0A0A0A0A0A0A0A0A0A0A0A0A0A0A0A0A0A0A0A0A0A0A0A0A0A0A0A0A0A0A0A0A0A0A0A0A0A0A0A0A0A0A0A0A0A0A0A0A0A0A0A0A0A0A,
  0x0A0A0A0A0A0A0A0A0A0A0A0A0A0A0A0A0A0A0A0A0A0A0A0A0A0A0A0A0A0A0A0A0A0A0A0A0A0A0A0A0A0A0A0A0A0A0A0A0A0A0A0A0A0A0A0A0A0A0A0A0A0A0A0A,
  0x0A0A0A0A0A0A0A0A0A0A0A0A0A0A0A0A0A0A0A0A0A0A0A0A0C0D0F1112141517181A1B1C1D1E1E1F1F1F1F1F1E1D1C1B19181513100E0B0A0A0A0A0A0A0A0A0A,
  0x0A0A0A0A0A0A0A0A0A0A0A0A0A0A0A0A0A0A0A0A0A0A0A0A0A0A0A0A0A0A0A0A0A0A0A0A0E172029323C454F5861646464646464646464646464646464646464,
  0x646464646464646464646464646464646464646464646464635C544D463F39322C26211C17130F0C0A0A0A0A0A0A0A0A0A0A0A0A0A0A0A0A0A0A0A0A0C0E1012,
  0x131517181A1B1C1D1E1E1E1E1E1E1D1D1C1A1918161412100E0C0A0A0A0A0A0A0A0A0A0A0A0A0A0A0A0A0A0A0A0A0A0A0A0A0A0A0A0A0A0A0A0A0A0A0A0A0A0B,
  0x0D10121416181A1C1E1F212223242425252525252424232221201F1D1C1A1817151312100E0C0B0A0A0A0A0A0A0A0A0A0A0A0A0A0A0A0A0A0A0A0A0A0A0A0A0A,
  0x0A0A0A0B0C0D0D0E0F0F10101010100F0F0E0D0C0B0A0A0A0A0A0A0A0A0A0A0A0A0A0A0A0A0A0A0A0A0A0A0A0A0A0A0A0A0A0A0A0A0A0A0A0A0A0A0A0A0A0A0A,
  0x0A0A0A0A0A0A0A0A0A0A0A0A0A0A0A0A0A0A0A0A0A0A0A0A0A0A0A0A0A0A0A0A0A0A0A0A0A0A0A0A0A0A0A0A0A0A0A0A0A0A0A0A0A0A0A0A0A0A0A0A0A0A0A0A,
  0x0A0A0A0A0A0A0A0A0A0A0A0A0A0A0A0A0A0A0A0A0A0A0A0A0A0A0A0A0A0A0A0A0A0A0A0A0A0A0A0A0A0A0A0A0A0A0A0A0B0D0F121417191C1F2326292D303437,
  0x3B3F4246494D505356585B5D5F616263646464646362605E5C5956524E4A45403B352F29221C150E0A0A0A0A0A0A0A0A0A0A0A0A0A0A0A0A0A0A0A0A0A0A0A0A,
  0x0A0A0A0A0A0A0A0A0A0A0A0A0A0A0A0A0A0A0A0A0C131B222930373D43494F54585C6063646464646464646464646463605D5955504C47413C37312B26201A15,
  0x0F0A0A0A0A0A0A0A0A0A0A0A0A0A0A0A0A0A0A0A0A0A0A0A0A0A0A0A0A0A0A0A0A0A0A0A0A0A0A0A0A0A0C0E1012131415161717181818171716161514131110,
  0x0F0D0C0B0A0A0A0A0A0A0A0A0A0A0A0A0A0A0A0A0A0A0A0A0A0A0A0A0B0C0E1012141517191B1D1E2021232425262727282828282827272625242321201E1C1A]

/-- Entries 0x2400 to 0x27FF (R200). -/
def flickPage2400 : List Nat := [
  0x18161412100E0C0A0A0A0A0A0A0A0A0A0A0A0A0A0A0A0A0A0A0A0A0A0A0A0A0A0A0A0A0A0A0A0A0A0B0D0E101112141516171818191919191919191817161514,
  0x1311100E0C0A0A0A0A0A0A0A0A0A0A0A0A0A0A0A0A0A0A0A0A0A0A0A0A0A0A0A0A0A0A0A0A0A0A0A0A0A0A0A0A0A0A0A0A0A0A0A0A0A0A0C0D0D0E0F10101011,
  0x1111111110100F0F0E0E0D0C0B0B0A0A0A0A0A0A0A0A0A0A0A0A0A0A0A0A0A0A0A0A0A0A0A0A0A0A0A0A0A0A0A0A0A0A0A0A0A0A0A0A0A0A0A0A0A0A0A0A0A0A,
  0x0A0A0A0A0A0A0A0A0A0A0A0A0A0A0A0A0B0D0F1215181C1F23282C31363B40454B51575D63646464646464646464646464646464646464646464646464646464,
  0x6464646464646464646464646464635B52493F362D241B120A0A0A0A0A0A0A0A0A0A0A0A0A0A0A0A0A0A0A0A0A0A0A0A0A0A0A0A0A0A0A0A0A0A0A0A0A0A0A0A,
  0x0A0A0A0A0A0A0D0F12141617191919191918171513110E0B0A0A0A0A0A0A0A0A0A0A0A0A0A0A0A0A0A0A0A0A0A0A0A0A0A0A0A0A0A0A0A0A0A0A0A0A0A0A0A0A,
  0x0A0A0A0A0A0A0A0A0A0A0A0A0A0A0A0A0A0A0A0A0A0A0A0A0A0A0A0A0A0A0A0A0A0A0A0A0A0A0A0A0A0A0A0A0A0A0A0A0A0A0A0A0A0A0A0A0A0A0A0A0A0A0A0A,
  0x0A0A0A0A0A0A0A0B0D0E0F10121313141515151616151514141312100F0D0C0A0A0A0A0A0A0A0A0A0A0A0A0A0A0A0A0A0A0A0A0A0A0A0A0A0A0A0A0A0A0A0A0A,
  0x0A0A0A0A0A0A0A0A0A0A0A0A0A0A0A0A0A0A0A0A0A0A0A0C0D0F1011121314141515151515141413131211100F0E0D0B0A0A0A0A0A0A0A0A0A0A0A0A0A0A0A0A,
  0x0A0A0A0A0A0A0A0A0A0A0A0A0A0A0A0A0A0A0C0D0E0F101011121313141414151515151514141413121211100F0F0E0D0C0B0A0A0A0A0A0A0A0A0A0A0A0A0A0A,
  0x0A0A0A0A0A0A0A0A0A0A0A0A0A0A0A0A0A0A0A0A0A0A0A0A0A0A0A0A0A0A0A0A0A0A0A0A0A0A0A0A0A0A0A0A0A0A0A0A0A0A0A0A0A0A0A0A0A0A0B0F14191E23,
  0x292F363C434B525A6264646464646464646464646464646464646464646464646464646464646464646464646464646464646464646464646464646464646056,
  0x4C433930271F170F0A0A0A0A0A0A0A0A0A0A0A0A0A0A0A0A0A0A0A0A0A0A0A0A0A0A0A0A0A0A0A0A0A0A0A0A0A0A0A0A0A0A0A0A0A0A0A0A0A0A0A0A0A0A0A0A,
  0x0A0A0A0A0A0A0A0A0A0A0A0A0A0A0A0A0A0A0A0A0A0A0A0A0A0A0A0A0A0A0A0A0A0A0A0A0A0A0A0A0A0A0A0A0A0A0A0A0A0A0A0A0A0A0A0A0A0A0A0A0A0A0A0A,
  0x0A0A0A0A0A0A0A0A0A0A0A0A0A0A0A0A0A0A0A0A0A0A0A0A0A0A0A0A0A0A0A0A0A0A0A0A0A0A0A0A0A0A0A0A0A0A0A0A0A0A0A0A0A0A0A0A0A0A0A0A0A0A0A0A,
  0x0A0A0A0A0A0A0A0A0A0A0A0A0A0A0A0A0A0A0A0A0A0A0A0A0A0A0A0A0A0A0A0A0A0A0A0A0A0A0A0A0A0A0A0A0A0A0A0A0A0A0A0A0A0A0A0A0A0A0A0A0A0A0A0A]

/-- Entries 0x2800 to 0x2BFF (R200). -/
def flickPage2800 : List Nat := [
  0x0A0A0A0A0A0A0A0A0A0A0A0A0A0A0A0A0A0A0A0A0A0A0A0A0A0A0A0A0A0A0A0A0A0A0A0A0A0A0A0A0A0A0A0A0A0A0A0A0A0A0A0A0A0A0A0A0A0A0A0B0B0C0C0C,
  0x0D0D0D0D0D0C0C0C0B0B0A0A0A0A0A0A0A0A0A0A0A0A0A0A0A0A0A0A0A0A0A0A0A0A0A0A0A0A0A0A0A0A0A0A0A0A0A0A0A0A0A0A0A0A0A0A0A0A0A0A0A0A0A0A,
  0x0A0A0A0A0A0A0A0A0A0A0A0A0A0A0A0A0A0A0A0A0A0A0A0A0A0A0A0A0A0A0A0A0A0A0A0A0A0A0A0A0A10171F272F38414A535D64646464646464646464646464,
  0x646464646464646464646464646464646464646464646464646464646464646464646464646464646460584F473F38312A241E18130F0A0A0A0A0A0A0A0A0A0A,
  0x0A0A0A0A0A0A0A0A0A0A0A0A0A0A0A0A0B0C0D0E0F0F1010100F0F0E0D0B0A0A0A0A0A0A0A0A0A0A0A0A0A0A0A0A0A0A0A0A0A0A0A0A0A0A0A0A0A0A0A0A0A0A,
  0x0A0A0A0A0A0A0A0A0A0A0A0A0A0A0A0A0A0A0A0A0A0A0A0A0A0A0A0A0A0B0C0D0E0F0F101010100F0F0E0D0C0B0A0A0A0A0A0A0A0A0A0A0A0A0A0A0A0A0A0A0A,
  0x0A0A0A0A0A0A0A0A0A0A0A0A0A0A0A0A0A0A0A0A0A0A0A0A0A0A0A0A0A0A0A0A0A0A0A0A0A0A0A0A0A0A0A0A0A0A0A0A0A0A0A0A0A0A0A0A0A0A0A0A0A0A0A0A,
  0x0A0A0A0A0A0A0A0A0A0A0A0A0A0A0A0A0A0A0A0A0A0A0A0A0A0A0A0A0A0A0A0A0A0A0A0A0A0A0A0A0A0A0A0A0A0A0A0A0A0A0A0A0A0A0A0A0A0A0A0A0A0A0A0A,
  0x0A0A0A0A0A0A0A0A0A0A0A0A0A0A0A0A0A0A0A0A0A0A0A0A0A0A0A0A0A0A0A0A0A0A0A0A0A0A0A0A0A0A0A0A0A0A0A0A0A0A0A0A0A0A0A0A0A0A0A0A0A0A0A0A,
  0x0A0A0A0A0A0A0A0A0A0A0A0A0B0D0F101213151718191B1C1D1E1E1F1F1F1F1F1E1E1D1B1A181614110E0B0A0A0A0A0A0A0A0A0A0A0A0A0A0A0A0A0A0A0A0A0A,
  0x0A0A0A0A0A0A0A0A0A0A0A0A0A0A0A0A0A0A0A0A0A0A0A0A0C151E27303A434D5660646464646464646464646464646464646464646464646464646464646464,
  0x646464646464646464646464645D564E47403A332D28221D1814100C0A0A0A0A0A0A0A0A0A0A0A0A0A0A0A0A0A0A0A0A0B0D0F1113151718191B1C1D1D1E1E1E,
  0x1E1E1D1D1C1B1918161513110F0C0A0A0A0A0A0A0A0A0A0A0A0A0A0A0A0A0A0A0A0A0A0A0A0A0A0A0A0A0A0A0A0A0A0A0A0A0A0B0D0F121416181A1C1D1F2022,
  0x23242425252525252424232221201F1D1C1A1917151412100E0D0B0A0A0A0A0A0A0A0A0A0A0A0A0A0A0A0A0A0A0A0A0A0A0A0A0A0A0A0A0B0C0D0D0E0F0F1010,
  0x1010100F0F0E0D0C0B0A0A0A0A0A0A0A0A0A0A0A0A0A0A0A0A0A0A0A0A0A0A0A0A0A0A0A0A0A0A0A0A0A0A0A0A0A0A0A0A0A0A0A0A0A0A0A0A0A0A0A0A0A0A0A,
  0x0A0A0A0A0A0A0A0A0A0A0A0A0A0A0A0A0A0A0A0A0A0A0A0A0A0A0A0A0A0A0A0A0A0A0A0A0A0A0A0A0A0A0A0A0A0A0A0A0A0A0A0A0A0A0A0A0A0A0A0A0A0A0A0A]

/-- Entries 0x2C00 to 0x2FFF (R200). -/
def flickPage2C00 : List Nat := [
  0x0A0A0A0A0A0A0A0A0A0A0A0A0A0A0A0A0A0A0A0A0A0A0A0A0A0A0A0A0A0A0A0A0A0A0A0A0B0D0F111316191C1F2225292C3033373A3E4245494C4F5255585A5D,
  0x5F606263646464646362605E5C5956534F4B46413C36302A241D17100A0A0A0A0A0A0A0A0A0A0A0A0A0A0A0A0A0A0A0A0A0A0A0A0A0A0A0A0A0A0A0A0A0A0A0A,
  0x0A0A0A0A0A0A0A0A0A121921282F363C42484E53575C5F63646464646464646464646464615D5A56514C48423D38322C27211B16100B0A0A0A0A0A0A0A0A0A0A,
  0x0A0A0A0A0A0A0A0A0A0A0A0A0A0A0A0A0A0A0A0A0A0A0A0A0A0A0A0A0A0A0C0E10111314151617171818181717161615141312100F0E0C0B0A0A0A0A0A0A0A0A,
  0x0A0A0A0A0A0A0A0A0A0A0A0A0A0A0A0A0A0C0E1011131517191B1C1E2021222425262727282828282827272625242322201E1D1B19171513110F0C0A0A0A0A0A,
  0x0A0A0A0A0A0A0A0A0A0A0A0A0A0A0A0A0A0A0A0A0A0A0A0A0A0A0A0A0B0C0E0F11121415161718181919191919191918171615141311100E0D0B0A0A0A0A0A0A,
  0x0A0A0A0A0A0A0A0A0A0A0A0A0A0A0A0A0A0A0A0A0A0A0A0A0A0A0A0A0A0A0A0A0A0A0A0A0A0A0A0A0A0A0A0B0C0D0E0F0F101011111111111010100F0E0E0D0C,
  0x0C0B0A0A0A0A0A0A0A0A0A0A0A0A0A0A0A0A0A0A0A0A0A0A0A0A0A0A0A0A0A0A0A0A0A0A0A0A0A0A0A0A0A0A0A0A0A0A0A0A0A0A0A0A0A0A0A0A0A0A0A0A0A0A,
  0x0A0A0A0A0A0D0F1214181B1F23272B30353A3F444A50565C62646464646464646464646464646464646464646464646464646464646464646464646464646464,
  0x6464645C534A41382F261D140B0A0A0A0A0A0A0A0A0A0A0A0A0A0A0A0A0A0A0A0A0A0A0A0A0A0A0A0A0A0A0A0A0A0A0A0A0A0A0A0A0A0A0A0A0A0C0F12141617,
  0x181919191918171513110F0C0A0A0A0A0A0A0A0A0A0A0A0A0A0A0A0A0A0A0A0A0A0A0A0A0A0A0A0A0A0A0A0A0A0A0A0A0A0A0A0A0A0A0A0A0A0A0A0A0A0A0A0A,
  0x0A0A0A0A0A0A0A0A0A0A0A0A0A0A0A0A0A0A0A0A0A0A0A0A0A0A0A0A0A0A0A0A0A0A0A0A0A0A0A0A0A0A0A0A0A0A0A0A0A0A0A0A0A0A0A0A0A0A0A0B0D0E0F10,
  0x111213141515151616151514141312110F0E0C0A0A0A0A0A0A0A0A0A0A0A0A0A0A0A0A0A0A0A0A0A0A0A0A0A0A0A0A0A0A0A0A0A0A0A0A0A0A0A0A0A0A0A0A0A,
  0x0A0A0A0A0A0A0A0A0A0A0A0B0D0F1011121314141515151515151413131211100F0E0D0C0B0A0A0A0A0A0A0A0A0A0A0A0A0A0A0A0A0A0A0A0A0A0A0A0A0A0A0A,
  0x0A0A0A0A0A0A0B0C0D0E0F101112131314141415151515151414141313121110100F0E0D0C0B0A0A0A0A0A0A0A0A0A0A0A0A0A0A0A0A0A0A0A0A0A0A0A0A0A0A,
  0x0A0A0A0A0A0A0A0A0A0A0A0A0A0A0A0A0A0A0A0A0A0A0A0A0A0A0A0A0A0A0A0A0A0A0A0A0A0A0A0A0A0A0A0A0A0A0B0F13181D22282E343B4249515860646464]

/-- Entries 0x3000 to 0x33FF (R200). -/
def flickPage3000 : List Nat := [
  0x646464646464646464646464646464646464646464646464646464646464646464646464646464646464646464646464646462584E443B32292118110A0A0A0A,
  0x0A0A0A0A0A0A0A0A0A0A0A0A0A0A0A0A0A0A0A0A0A0A0A0A0A0A0A0A0A0A0A0A0A0A0A0A0A0A0A0A0A0A0A0A0A0A0A0A0A0A0A0A0A0A0A0A0A0A0A0A0A0A0A0A,
  0x0A0A0A0A0A0A0A0A0A0A0A0A0A0A0A0A0A0A0A0A0A0A0A0A0A0A0A0A0A0A0A0A0A0A0A0A0A0A0A0A0A0A0A0A0A0A0A0A0A0A0A0A0A0A0A0A0A0A0A0A0A0A0A0A,
  0x0A0A0A0A0A0A0A0A0A0A0A0A0A0A0A0A0A0A0A0A0A0A0A0A0A0A0A0A0A0A0A0A0A0A0A0A0A0A0A0A0A0A0A0A0A0A0A0A0A0A0A0A0A0A0A0A0A0A0A0A0A0A0A0A,
  0x0A0A0A0A0A0A0A0A0A0A0A0A0A0A0A0A0A0A0A0A0A0A0A0A0A0A0A0A0A0A0A0A0A0A0A0A0A0A0A0A0A0A0A0A0A0A0A0A0A0A0A0A0A0A0A0A0A0A0A0A0A0A0A0A,
  0x0A0A0A0A0A0A0A0A0A0A0A0A0A0A0A0A0A0A0A0A0A0A0A0A0A0A0A0A0A0A0A0A0A0A0A0A0A0A0A0A0A0A0A0A0A0A0A0B0B0C0C0C0D0D0D0D0D0C0C0C0B0B0A0A,
  0x0A0A0A0A0A0A0A0A0A0A0A0A0A0A0A0A0A0A0A0A0A0A0A0A0A0A0A0A0A0A0A0A0A0A0A0A0A0A0A0A0A0A0A0A0A0A0A0A0A0A0A0A0A0A0A0A0A0A0A0A0A0A0A0A,
  0x0A0A0A0A0A0A0A0A0A0A0A0A0A0A0A0A0A0A0A0A0A0A0A0A0A0A0A0A0A0F161D252E363F48515B64646464646464646464646464646464646464646464646464,
  0x6464646464646464646464646464646464646464646464646464646464625951494139322B251F19140F0B0A0A0A0A0A0A0A0A0A0A0A0A0A0A0A0A0A0A0A0A0A,
  0x0A0A0A0A0B0C0D0E0F0F1010100F0F0E0D0C0A0A0A0A0A0A0A0A0A0A0A0A0A0A0A0A0A0A0A0A0A0A0A0A0A0A0A0A0A0A0A0A0A0A0A0A0A0A0A0A0A0A0A0A0A0A,
  0x0A0A0A0A0A0A0A0A0A0A0A0A0A0A0A0A0A0B0C0D0E0F0F101010100F0F0E0D0D0C0B0A0A0A0A0A0A0A0A0A0A0A0A0A0A0A0A0A0A0A0A0A0A0A0A0A0A0A0A0A0A,
  0x0A0A0A0A0A0A0A0A0A0A0A0A0A0A0A0A0A0A0A0A0A0A0A0A0A0A0A0A0A0A0A0A0A0A0A0A0A0A0A0A0A0A0A0A0A0A0A0A0A0A0A0A0A0A0A0A0A0A0A0A0A0A0A0A,
  0x0A0A0A0A0A0A0A0A0A0A0A0A0A0A0A0A0A0A0A0A0A0A0A0A0A0A0A0A0A0A0A0A0A0A0A0A0A0A0A0A0A0A0A0A0A0A0A0A0A0A0A0A0A0A0A0A0A0A0A0A0A0A0A0A,
  0x0A0A0A0A0A0A0A0A0A0A0A0A0A0A0A0A0A0A0A0A0A0A0A0A0A0A0A0A0A0A0A0A0A0A0A0A0A0A0A0A0A0A0A0A0A0A0A0A0A0A0A0A0A0A0A0A0A0A0A0A0A0A0A0A,
  0x0B0D0E101213151618191A1C1D1D1E1F1F1F1F1F1F1E1D1C1A181614110F0C0A0A0A0A0A0A0A0A0A0A0A0A0A0A0A0A0A0A0A0A0A0A0A0A0A0A0A0A0A0A0A0A0A,
  0x0A0A0A0A0A0A0A0A0A0A0A0A0A131C252E38414B545E646464646464646464646464646464646464646464646464646464646464646464646464646464646464]

/-- Entries 0x3400 to 0x37FF (R200). -/
def flickPage3400 : List Nat := [
  0x645E575049423B352F29231E1915110D0A0A0A0A0A0A0A0A0A0A0A0A0A0A0A0A0A0A0A0A0B0D0F1113151618191A1C1D1D1E1E1E1E1E1E1D1C1B1A1817151311,
  0x0F0D0B0A0A0A0A0A0A0A0A0A0A0A0A0A0A0A0A0A0A0A0A0A0A0A0A0A0A0A0A0A0A0A0A0A0A0A0A0A0C0F111316181A1B1D1F2021222324252525252525242322,
  0x21201F1E1C1B1917161412100F0D0B0A0A0A0A0A0A0A0A0A0A0A0A0A0A0A0A0A0A0A0A0A0A0A0A0A0A0A0A0B0C0C0D0E0F0F0F101010100F0F0E0E0D0C0A0A0A,
  0x0A0A0A0A0A0A0A0A0A0A0A0A0A0A0A0A0A0A0A0A0A0A0A0A0A0A0A0A0A0A0A0A0A0A0A0A0A0A0A0A0A0A0A0A0A0A0A0A0A0A0A0A0A0A0A0A0A0A0A0A0A0A0A0A,
  0x0A0A0A0A0A0A0A0A0A0A0A0A0A0A0A0A0A0A0A0A0A0A0A0A0A0A0A0A0A0A0A0A0A0A0A0A0A0A0A0A0A0A0A0A0A0A0A0A0A0A0A0A0A0A0A0A0A0A0A0A0A0A0A0A,
  0x0A0A0A0A0A0A0A0A0A0A0A0A0A0A0A0A0A0A0A0A0A0A0A0A0A0C0E111316181B1E2125282B2F32363A3D4144484B4E5255575A5C5E606263646464646362615F,
  0x5D5A5753504B47423D37312B251E18110A0A0A0A0A0A0A0A0A0A0A0A0A0A0A0A0A0A0A0A0A0A0A0A0A0A0A0A0A0A0A0A0A0A0A0A0A0A0A0A0A0A0A0A0A10181F,
  0x262D343B41474C52565B5F62646464646464646464646464615E5A56524D49433E39332E28221D17110C0A0A0A0A0A0A0A0A0A0A0A0A0A0A0A0A0A0A0A0A0A0A,
  0x0A0A0A0A0A0A0A0A0A0A0A0A0A0A0A0A0A0A0B0D0F111214151617171818181817171615141312110F0E0D0B0A0A0A0A0A0A0A0A0A0A0A0A0A0A0A0A0A0A0A0A,
  0x0A0A0A0A0A0C0D0F11131517181A1C1E1F21222325262627282828282828272625242322201F1D1B19171513110F0D0B0A0A0A0A0A0A0A0A0A0A0A0A0A0A0A0A,
  0x0A0A0A0A0A0A0A0A0A0A0A0A0A0A0A0A0A0C0E0F11121314161717181919191919191918171716141312100F0D0B0A0A0A0A0A0A0A0A0A0A0A0A0A0A0A0A0A0A,
  0x0A0A0A0A0A0A0A0A0A0A0A0A0A0A0A0A0A0A0A0A0A0A0A0A0A0A0A0A0A0A0A0B0C0D0E0F0F101011111111111010100F0F0E0D0D0C0B0A0A0A0A0A0A0A0A0A0A,
  0x0A0A0A0A0A0A0A0A0A0A0A0A0A0A0A0A0A0A0A0A0A0A0A0A0A0A0A0A0A0A0A0A0A0A0A0A0A0A0A0A0A0A0A0A0A0A0A0A0A0A0A0A0A0A0A0A0A0C0E1114171A1E,
  0x22262A2F34393E43494F555B616464646464646464646464646464646464646464646464646464646464646464646464646464646464645E554C433A31281F16,
  0x0D0A0A0A0A0A0A0A0A0A0A0A0A0A0A0A0A0A0A0A0A0A0A0A0A0A0A0A0A0A0A0A0A0A0A0A0A0A0A0A0A0A0A0A0A0A0B0E11131517181919191918171614120F0C,
  0x0A0A0A0A0A0A0A0A0A0A0A0A0A0A0A0A0A0A0A0A0A0A0A0A0A0A0A0A0A0A0A0A0A0A0A0A0A0A0A0A0A0A0A0A0A0A0A0A0A0A0A0A0A0A0A0A0A0A0A0A0A0A0A0A]

/-- Entries 0x3800 to 0x3BFF (R200). -/
def flickPage3800 : List Nat := [
  0x0A0A0A0A0A0A0A0A0A0A0A0A0A0A0A0A0A0A0A0A0A0A0A0A0A0A0A0A0A0A0A0A0A0A0A0A0A0A0A0A0A0A0A0A0A0A0A0B0C0E0F10111213141415151616151515,
  0x14131211100E0C0B0A0A0A0A0A0A0A0A0A0A0A0A0A0A0A0A0A0A0A0A0A0A0A0A0A0A0A0A0A0A0A0A0A0A0A0A0A0A0A0A0A0A0A0A0A0A0A0A0A0A0A0A0A0A0A0B,
  0x0D0E1011121314141515151515151414131211100F0E0D0C0B0A0A0A0A0A0A0A0A0A0A0A0A0A0A0A0A0A0A0A0A0A0A0A0A0A0A0A0A0A0A0A0A0A0B0C0D0E0F10,
  0x1112121314141415151515151414141313121111100F0E0D0C0B0A0A0A0A0A0A0A0A0A0A0A0A0A0A0A0A0A0A0A0A0A0A0A0A0A0A0A0A0A0A0A0A0A0A0A0A0A0A,
  0x0A0A0A0A0A0A0A0A0A0A0A0A0A0A0A0A0A0A0A0A0A0A0A0A0A0A0A0A0A0A0A0A0A0A0A0E12171C21272D333A41484F575F646464646464646464646464646464,
  0x6464646464646464646464646464646464646464646464646464646464646464646464646464635A50463D342B221A120B0A0A0A0A0A0A0A0A0A0A0A0A0A0A0A,
  0x0A0A0A0A0A0A0A0A0A0A0A0A0A0A0A0A0A0A0A0A0A0A0A0A0A0A0A0A0A0A0A0A0A0A0A0A0A0A0A0A0A0A0A0A0A0A0A0A0A0A0A0A0A0A0A0A0A0A0A0A0A0A0A0A,
  0x0A0A0A0A0A0A0A0A0A0A0A0A0A0A0A0A0A0A0A0A0A0A0A0A0A0A0A0A0A0A0A0A0A0A0A0A0A0A0A0A0A0A0A0A0A0A0A0A0A0A0A0A0A0A0A0A0A0A0A0A0A0A0A0A,
  0x0A0A0A0A0A0A0A0A0A0A0A0A0A0A0A0A0A0A0A0A0A0A0A0A0A0A0A0A0A0A0A0A0A0A0A0A0A0A0A0A0A0A0A0A0A0A0A0A0A0A0A0A0A0A0A0A0A0A0A0A0A0A0A0A,
  0x0A0A0A0A0A0A0A0A0A0A0A0A0A0A0A0A0A0A0A0A0A0A0A0A0A0A0A0A0A0A0A0A0A0A0A0A0A0A0A0A0A0A0A0A0A0A0A0A0A0A0A0A0A0A0A0A0A0A0A0A0A0A0A0A,
  0x0A0A0A0A0A0A0A0A0A0A0A0A0A0A0A0A0A0A0A0A0A0A0A0A0A0A0A0A0A0A0A0A0A0A0A0B0B0C0C0C0D0D0D0D0D0C0C0C0B0B0A0A0A0A0A0A0A0A0A0A0A0A0A0A,
  0x0A0A0A0A0A0A0A0A0A0A0A0A0A0A0A0A0A0A0A0A0A0A0A0A0A0A0A0A0A0A0A0A0A0A0A0A0A0A0A0A0A0A0A0A0A0A0A0A0A0A0A0A0A0A0A0A0A0A0A0A0A0A0A0A,
  0x0A0A0A0A0A0A0A0A0A0A0A0A0A0A0A0A0A0D141C242C343D46505963646464646464646464646464646464646464646464646464646464646464646464646464,
  0x6464646464646464646464646464646464645B524A423B342D26201A15100C0A0A0A0A0A0A0A0A0A0A0A0A0A0A0A0A0A0A0A0A0A0A0A0A0A0B0C0D0E0F0F1010,
  0x100F0F0E0D0C0A0A0A0A0A0A0A0A0A0A0A0A0A0A0A0A0A0A0A0A0A0A0A0A0A0A0A0A0A0A0A0A0A0A0A0A0A0A0A0A0A0A0A0A0A0A0A0A0A0A0A0A0A0A0A0A0A0A,
  0x0A0A0A0A0A0A0C0D0E0F0F101010100F0F0E0E0D0C0B0A0A0A0A0A0A0A0A0A0A0A0A0A0A0A0A0A0A0A0A0A0A0A0A0A0A0A0A0A0A0A0A0A0A0A0A0A0A0A0A0A0A]

/-- Entries 0x3C00 to 0x3FFF (R200). -/
def flickPage3C00 : List Nat := [
  0x0A0A0A0A0A0A0A0A0A0A0A0A0A0A0A0A0A0A0A0A0A0A0A0A0A0A0A0A0A0A0A0A0A0A0A0A0A0A0A0A0A0A0A0A0A0A0A0A0A0A0A0A0A0A0A0A0A0A0A0A0A0A0A0A,
  0x0A0A0A0A0A0A0A0A0A0A0A0A0A0A0A0A0A0A0A0A0A0A0A0A0A0A0A0A0A0A0A0A0A0A0A0A0A0A0A0A0A0A0A0A0A0A0A0A0A0A0A0A0A0A0A0A0A0A0A0A0A0A0A0A,
  0x0A0A0A0A0A0A0A0A0A0A0A0A0A0A0A0A0A0A0A0A0A0A0A0A0A0A0A0A0A0A0A0A0A0A0A0A0A0A0A0A0A0A0A0A0A0A0A0A0A0A0A0A0B0C0E101113141617191A1B,
  0x1C1D1E1F1F1F1F1F1F1E1D1C1A191714120F0C0A0A0A0A0A0A0A0A0A0A0A0A0A0A0A0A0A0A0A0A0A0A0A0A0A0A0A0A0A0A0A0A0A0A0A0A0A0A0A0A0A0A0A0A0A,
  0x0A111A232D363F49525C646464646464646464646464646464646464646464646464646464646464646464646464646464646464646058514A433C36302A241F,
  0x1A15110E0A0A0A0A0A0A0A0A0A0A0A0A0A0A0A0A0A0A0A0A0B0D0F1012141617191A1B1C1D1E1E1E1E1E1E1D1C1B1A19171513110F0D0B0A0A0A0A0A0A0A0A0A,
  0x0A0A0A0A0A0A0A0A0A0A0A0A0A0A0A0A0A0A0A0A0A0A0A0A0A0A0A0A0C0E11131517191B1D1E202122232425252525252524232322211F1E1D1B191816141311,
  0x0F0D0C0A0A0A0A0A0A0A0A0A0A0A0A0A0A0A0A0A0A0A0A0A0A0A0A0A0A0A0A0A0B0C0D0E0E0F0F10101010100F0F0E0D0C0B0A0A0A0A0A0A0A0A0A0A0A0A0A0A,
  0x0A0A0A0A0A0A0A0A0A0A0A0A0A0A0A0A0A0A0A0A0A0A0A0A0A0A0A0A0A0A0A0A0A0A0A0A0A0A0A0A0A0A0A0A0A0A0A0A0A0A0A0A0A0A0A0A0A0A0A0A0A0A0A0A,
  0x0A0A0A0A0A0A0A0A0A0A0A0A0A0A0A0A0A0A0A0A0A0A0A0A0A0A0A0A0A0A0A0A0A0A0A0A0A0A0A0A0A0A0A0A0A0A0A0A0A0A0A0A0A0A0A0A0A0A0A0A0A0A0A0A,
  0x0A0A0A0A0A0A0A0A0A0A0A0A0A0C0E101315181B1E2124272B2E3235393D4044474B4E515457595C5E606162636464646362615F5D5A5854504C48433E38322C,
  0x262019120C0A0A0A0A0A0A0A0A0A0A0A0A0A0A0A0A0A0A0A0A0A0A0A0A0A0A0A0A0A0A0A0A0A0A0A0A0A0A0A0A0A0A0A0A0F161E252C333A40464B51565A5E61,
  0x646464646464646464646464625F5B57534E49443F3A342F29231E18130D0A0A0A0A0A0A0A0A0A0A0A0A0A0A0A0A0A0A0A0A0A0A0A0A0A0A0A0A0A0A0A0A0A0A,
  0x0A0A0A0A0A0A0B0D0F11121415161717181818181717161514131211100E0D0B0A0A0A0A0A0A0A0A0A0A0A0A0A0A0A0A0A0A0A0A0A0A0A0A0A0B0D0F11121416,
  0x181A1C1D1F20222324252627282828282828272626252322211F1D1C1A181614110F0D0B0A0A0A0A0A0A0A0A0A0A0A0A0A0A0A0A0A0A0A0A0A0A0A0A0A0A0A0A,
  0x0A0A0A0A0A0C0D0F10121314151617181919191919191918181716151312110F0D0B0A0A0A0A0A0A0A0A0A0A0A0A0A0A0A0A0A0A0A0A0A0A0A0A0A0A0A0A0A0A]

/-- The sixteen pages of part 0 (R200), in index order. -/
def flickPart0 : List (List Nat) :=
  [flickPage0000, flickPage0400, flickPage0800, flickPage0C00, flickPage1000, flickPage1400, flickPage1800, flickPage1C00,
   flickPage2000, flickPage2400, flickPage2800, flickPage2C00, flickPage3000, flickPage3400, flickPage3800, flickPage3C00]

end Sys2Proof.Machine
end

