-- ==== Sys2Proof/Machine/FlickRom1.lean ====
section
/-! DEFINITION. The flicker ROM `FLICK`, entries 0x4000 to 0x7FFF: 43_flicker_rom_1.md rule R201, line for line.
A row is one line of the spec's listing, 64 entries of two hexadecimal digits read as one number, so that the row's first
entry is its most significant byte. A page is 16 rows, 1024 entries. `Machine/Flicker.lean` reads the table. -/

namespace Sys2Proof.Machine

/-- Entries 0x4000 to 0x43FF (R201). -/
def flickPage4000 : List Nat := [
  0x0A0A0A0A0A0A0A0A0A0A0A0A0A0A0A0A0A0A0A0B0C0D0E0F0F101010111111111010100F0F0E0D0D0C0B0A0A0A0A0A0A0A0A0A0A0A0A0A0A0A0A0A0A0A0A0A0A,
  0x0A0A0A0A0A0A0A0A0A0A0A0A0A0A0A0A0A0A0A0A0A0A0A0A0A0A0A0A0A0A0A0A0A0A0A0A0A0A0A0A0A0A0A0A0A0C0E1113161A1D2125292E33383D42484E5359,
  0x5F64646464646464646464646464646464646464646464646464646464646464646464646464646464646460574E453C322920170F0A0A0A0A0A0A0A0A0A0A0A,
  0x0A0A0A0A0A0A0A0A0A0A0A0A0A0A0A0A0A0A0A0A0A0A0A0A0A0A0A0A0A0A0A0A0A0A0B0E1113151718191919191917161412100D0A0A0A0A0A0A0A0A0A0A0A0A,
  0x0A0A0A0A0A0A0A0A0A0A0A0A0A0A0A0A0A0A0A0A0A0A0A0A0A0A0A0A0A0A0A0A0A0A0A0A0A0A0A0A0A0A0A0A0A0A0A0A0A0A0A0A0A0A0A0A0A0A0A0A0A0A0A0A,
  0x0A0A0A0A0A0A0A0A0A0A0A0A0A0A0A0A0A0A0A0A0A0A0A0A0A0A0A0A0A0A0A0A0A0A0A0B0C0D0F1011121314141515151615151514131211100E0D0B0A0A0A0A,
  0x0A0A0A0A0A0A0A0A0A0A0A0A0A0A0A0A0A0A0A0A0A0A0A0A0A0A0A0A0A0A0A0A0A0A0A0A0A0A0A0A0A0A0A0A0A0A0A0A0A0A0A0B0C0E0F111213131415151515,
  0x1515141413121111100E0D0C0B0A0A0A0A0A0A0A0A0A0A0A0A0A0A0A0A0A0A0A0A0A0A0A0A0A0A0A0A0A0A0A0A0A0B0C0D0E0F10111212131314141515151515,
  0x1414141313121111100F0E0D0C0B0A0A0A0A0A0A0A0A0A0A0A0A0A0A0A0A0A0A0A0A0A0A0A0A0A0A0A0A0A0A0A0A0A0A0A0A0A0A0A0A0A0A0A0A0A0A0A0A0A0A,
  0x0A0A0A0A0A0A0A0A0A0A0A0A0A0A0A0A0A0A0A0A0A0A0A0D11161B20262B32383F464E555D646464646464646464646464646464646464646464646464646464,
  0x6464646464646464646464646464646464646464646464646464645B52483F352C241C140C0A0A0A0A0A0A0A0A0A0A0A0A0A0A0A0A0A0A0A0A0A0A0A0A0A0A0A,
  0x0A0A0A0A0A0A0A0A0A0A0A0A0A0A0A0A0A0A0A0A0A0A0A0A0A0A0A0A0A0A0A0A0A0A0A0A0A0A0A0A0A0A0A0A0A0A0A0A0A0A0A0A0A0A0A0A0A0A0A0A0A0A0A0A,
  0x0A0A0A0A0A0A0A0A0A0A0A0A0A0A0A0A0A0A0A0A0A0A0A0A0A0A0A0A0A0A0A0A0A0A0A0A0A0A0A0A0A0A0A0A0A0A0A0A0A0A0A0A0A0A0A0A0A0A0A0A0A0A0A0A,
  0x0A0A0A0A0A0A0A0A0A0A0A0A0A0A0A0A0A0A0A0A0A0A0A0A0A0A0A0A0A0A0A0A0A0A0A0A0A0A0A0A0A0A0A0A0A0A0A0A0A0A0A0A0A0A0A0A0A0A0A0A0A0A0A0A,
  0x0A0A0A0A0A0A0A0A0A0A0A0A0A0A0A0A0A0A0A0A0A0A0A0A0A0A0A0A0A0A0A0A0A0A0A0A0A0A0A0A0A0A0A0A0A0A0A0A0A0A0A0A0A0A0A0A0A0A0A0A0A0A0A0A,
  0x0A0A0A0A0A0A0A0A0A0A0A0A0A0A0A0A0A0A0A0A0A0A0A0B0B0C0C0C0D0D0D0D0D0C0C0C0C0B0B0A0A0A0A0A0A0A0A0A0A0A0A0A0A0A0A0A0A0A0A0A0A0A0A0A]

/-- Entries 0x4400 to 0x47FF (R201). -/
def flickPage4400 : List Nat := [
  0x0A0A0A0A0A0A0A0A0A0A0A0A0A0A0A0A0A0A0A0A0A0A0A0A0A0A0A0A0A0A0A0A0A0A0A0A0A0A0A0A0A0A0A0A0A0A0A0A0A0A0A0A0A0A0A0A0A0A0A0A0A0A0A0A,
  0x0A0A0A0A0A0C131A222A333B444E5761646464646464646464646464646464646464646464646464646464646464646464646464646464646464646464646464,
  0x6464646464645D544C443C352E27211B16110D0A0A0A0A0A0A0A0A0A0A0A0A0A0A0A0A0A0A0A0A0A0A0A0A0A0A0C0D0E0F0F101010100F0E0D0C0B0A0A0A0A0A,
  0x0A0A0A0A0A0A0A0A0A0A0A0A0A0A0A0A0A0A0A0A0A0A0A0A0A0A0A0A0A0A0A0A0A0A0A0A0A0A0A0A0A0A0A0A0A0A0A0A0A0A0A0A0A0A0A0A0A0A0B0D0E0E0F0F,
  0x1010100F0F0E0E0D0C0B0A0A0A0A0A0A0A0A0A0A0A0A0A0A0A0A0A0A0A0A0A0A0A0A0A0A0A0A0A0A0A0A0A0A0A0A0A0A0A0A0A0A0A0A0A0A0A0A0A0A0A0A0A0A,
  0x0A0A0A0A0A0A0A0A0A0A0A0A0A0A0A0A0A0A0A0A0A0A0A0A0A0A0A0A0A0A0A0A0A0A0A0A0A0A0A0A0A0A0A0A0A0A0A0A0A0A0A0A0A0A0A0A0A0A0A0A0A0A0A0A,
  0x0A0A0A0A0A0A0A0A0A0A0A0A0A0A0A0A0A0A0A0A0A0A0A0A0A0A0A0A0A0A0A0A0A0A0A0A0A0A0A0A0A0A0A0A0A0A0A0A0A0A0A0A0A0A0A0A0A0A0A0A0A0A0A0A,
  0x0A0A0A0A0A0A0A0A0A0A0A0A0A0A0A0A0A0A0A0A0A0A0A0A0A0A0A0A0A0A0A0A0A0A0A0A0A0A0A0A0B0C0E0F1113141617191A1B1C1D1E1F1F1F1F1F1F1E1D1C,
  0x1B19171512100D0A0A0A0A0A0A0A0A0A0A0A0A0A0A0A0A0A0A0A0A0A0A0A0A0A0A0A0A0A0A0A0A0A0A0A0A0A0A0A0A0A0A0A0A0A0A1019222B343E47515A6364,
  0x6464646464646464646464646464646464646464646464646464646464646464646464646464646464615A534B443E37312B25201B16120E0B0A0A0A0A0A0A0A,
  0x0A0A0A0A0A0A0A0A0A0A0A0A0A0C0E1012141617191A1B1C1D1E1E1E1E1E1E1D1C1B1A1917161412100E0C0A0A0A0A0A0A0A0A0A0A0A0A0A0A0A0A0A0A0A0A0A,
  0x0A0A0A0A0A0A0A0A0A0A0A0A0A0A0A0A0C0E10121517191B1C1E20212223242425252525252424232221201E1D1B1A18161513110F0E0C0B0A0A0A0A0A0A0A0A,
  0x0A0A0A0A0A0A0A0A0A0A0A0A0A0A0A0A0A0A0A0A0B0C0D0E0E0F0F10101010100F0F0E0D0C0B0A0A0A0A0A0A0A0A0A0A0A0A0A0A0A0A0A0A0A0A0A0A0A0A0A0A,
  0x0A0A0A0A0A0A0A0A0A0A0A0A0A0A0A0A0A0A0A0A0A0A0A0A0A0A0A0A0A0A0A0A0A0A0A0A0A0A0A0A0A0A0A0A0A0A0A0A0A0A0A0A0A0A0A0A0A0A0A0A0A0A0A0A,
  0x0A0A0A0A0A0A0A0A0A0A0A0A0A0A0A0A0A0A0A0A0A0A0A0A0A0A0A0A0A0A0A0A0A0A0A0A0A0A0A0A0A0A0A0A0A0A0A0A0A0A0A0A0A0A0A0A0A0A0A0A0A0A0A0A,
  0x0A0C0E101215171A1D2023272A2D3135383C3F43474A4D505356595B5D5F616263646464636361605E5B5855514D49443F39342E27211A140D0A0A0A0A0A0A0A]

/-- Entries 0x4800 to 0x4BFF (R201). -/
def flickPage4800 : List Nat := [
  0x0A0A0A0A0A0A0A0A0A0A0A0A0A0A0A0A0A0A0A0A0A0A0A0A0A0A0A0A0A0A0A0A0A0A0A0A0A0E151C242B32383F454A5055595D61646464646464646464646464,
  0x635F5C58544F4A45403B35302A241F19140E0A0A0A0A0A0A0A0A0A0A0A0A0A0A0A0A0A0A0A0A0A0A0A0A0A0A0A0A0A0A0A0A0A0A0A0A0A0A0A0A0A0C0E101213,
  0x15161617171818181717161514131211100E0D0C0A0A0A0A0A0A0A0A0A0A0A0A0A0A0A0A0A0A0A0A0A0A0A0A0A0B0D0E10121416181A1B1D1F20222324252627,
  0x272828282828272726252422211F1E1C1A18161412100E0C0A0A0A0A0A0A0A0A0A0A0A0A0A0A0A0A0A0A0A0A0A0A0A0A0A0A0A0A0A0A0A0A0A0B0D0E10111314,
  0x151617181819191919191918181716151412110F0E0C0A0A0A0A0A0A0A0A0A0A0A0A0A0A0A0A0A0A0A0A0A0A0A0A0A0A0A0A0A0A0A0A0A0A0A0A0A0A0A0A0A0A,
  0x0A0A0A0A0A0A0A0B0C0D0E0E0F101010111111111010100F0F0E0E0D0C0B0A0A0A0A0A0A0A0A0A0A0A0A0A0A0A0A0A0A0A0A0A0A0A0A0A0A0A0A0A0A0A0A0A0A,
  0x0A0A0A0A0A0A0A0A0A0A0A0A0A0A0A0A0A0A0A0A0A0A0A0A0A0A0A0A0A0A0A0A0A0B0E101316191D2024292D32373C41474C52585E6464646464646464646464,
  0x64646464646464646464646464646464646464646464646464646464646464615950473D342B2219100A0A0A0A0A0A0A0A0A0A0A0A0A0A0A0A0A0A0A0A0A0A0A,
  0x0A0A0A0A0A0A0A0A0A0A0A0A0A0A0A0A0A0A0A0A0A0A0A0D1013151618191919191918161513100D0A0A0A0A0A0A0A0A0A0A0A0A0A0A0A0A0A0A0A0A0A0A0A0A,
  0x0A0A0A0A0A0A0A0A0A0A0A0A0A0A0A0A0A0A0A0A0A0A0A0A0A0A0A0A0A0A0A0A0A0A0A0A0A0A0A0A0A0A0A0A0A0A0A0A0A0A0A0A0A0A0A0A0A0A0A0A0A0A0A0A,
  0x0A0A0A0A0A0A0A0A0A0A0A0A0A0A0A0A0A0A0A0A0A0A0A0A0C0D0E1011121314141515151615151514131311100F0D0B0A0A0A0A0A0A0A0A0A0A0A0A0A0A0A0A,
  0x0A0A0A0A0A0A0A0A0A0A0A0A0A0A0A0A0A0A0A0A0A0A0A0A0A0A0A0A0A0A0A0A0A0A0A0A0A0A0A0A0C0E0F1012131314151515151515141413121211100F0E0C,
  0x0B0A0A0A0A0A0A0A0A0A0A0A0A0A0A0A0A0A0A0A0A0A0A0A0A0A0A0A0A0A0A0A0A0A0B0C0D0E0F101111121313141415151515151514141313121211100F0E0D,
  0x0C0C0B0A0A0A0A0A0A0A0A0A0A0A0A0A0A0A0A0A0A0A0A0A0A0A0A0A0A0A0A0A0A0A0A0A0A0A0A0A0A0A0A0A0A0A0A0A0A0A0A0A0A0A0A0A0A0A0A0A0A0A0A0A,
  0x0A0A0A0A0A0A0A0A0A0A0A0C10151A1F242A30373E454C545C646464646464646464646464646464646464646464646464646464646464646464646464646464,
  0x6464646464646464646464646464645D544A40372E261D150E0A0A0A0A0A0A0A0A0A0A0A0A0A0A0A0A0A0A0A0A0A0A0A0A0A0A0A0A0A0A0A0A0A0A0A0A0A0A0A]

/-- Entries 0x4C00 to 0x4FFF (R201). -/
def flickPage4C00 : List Nat := [
  0x0A0A0A0A0A0A0A0A0A0A0A0A0A0A0A0A0A0A0A0A0A0A0A0A0A0A0A0A0A0A0A0A0A0A0A0A0A0A0A0A0A0A0A0A0A0A0A0A0A0A0A0A0A0A0A0A0A0A0A0A0A0A0A0A,
  0x0A0A0A0A0A0A0A0A0A0A0A0A0A0A0A0A0A0A0A0A0A0A0A0A0A0A0A0A0A0A0A0A0A0A0A0A0A0A0A0A0A0A0A0A0A0A0A0A0A0A0A0A0A0A0A0A0A0A0A0A0A0A0A0A,
  0x0A0A0A0A0A0A0A0A0A0A0A0A0A0A0A0A0A0A0A0A0A0A0A0A0A0A0A0A0A0A0A0A0A0A0A0A0A0A0A0A0A0A0A0A0A0A0A0A0A0A0A0A0A0A0A0A0A0A0A0A0A0A0A0A,
  0x0A0A0A0A0A0A0A0A0A0A0A0A0A0A0A0A0A0A0A0A0A0A0A0A0A0A0A0A0A0A0A0A0A0A0A0A0A0A0A0A0A0A0A0A0A0A0A0A0A0A0A0A0A0A0A0A0A0A0A0A0A0A0A0A,
  0x0A0A0A0A0A0A0A0A0A0A0A0B0B0C0C0C0C0D0D0D0D0D0C0C0C0B0B0A0A0A0A0A0A0A0A0A0A0A0A0A0A0A0A0A0A0A0A0A0A0A0A0A0A0A0A0A0A0A0A0A0A0A0A0A,
  0x0A0A0A0A0A0A0A0A0A0A0A0A0A0A0A0A0A0A0A0A0A0A0A0A0A0A0A0A0A0A0A0A0A0A0A0A0A0A0A0A0A0A0A0A0A0A0A0A0A0A0A0A0A0A0A0A0A0B12192129313A,
  0x434C555F6464646464646464646464646464646464646464646464646464646464646464646464646464646464646464646464646464646464645E564D453E36,
  0x2F29221D17120E0A0A0A0A0A0A0A0A0A0A0A0A0A0A0A0A0A0A0A0A0A0A0A0A0A0A0B0D0E0E0F101010100F0E0D0C0B0A0A0A0A0A0A0A0A0A0A0A0A0A0A0A0A0A,
  0x0A0A0A0A0A0A0A0A0A0A0A0A0A0A0A0A0A0A0A0A0A0A0A0A0A0A0A0A0A0A0A0A0A0A0A0A0A0A0A0A0A0A0A0A0A0A0B0C0D0E0F0F101010100F0F0E0D0C0B0A0A,
  0x0A0A0A0A0A0A0A0A0A0A0A0A0A0A0A0A0A0A0A0A0A0A0A0A0A0A0A0A0A0A0A0A0A0A0A0A0A0A0A0A0A0A0A0A0A0A0A0A0A0A0A0A0A0A0A0A0A0A0A0A0A0A0A0A,
  0x0A0A0A0A0A0A0A0A0A0A0A0A0A0A0A0A0A0A0A0A0A0A0A0A0A0A0A0A0A0A0A0A0A0A0A0A0A0A0A0A0A0A0A0A0A0A0A0A0A0A0A0A0A0A0A0A0A0A0A0A0A0A0A0A,
  0x0A0A0A0A0A0A0A0A0A0A0A0A0A0A0A0A0A0A0A0A0A0A0A0A0A0A0A0A0A0A0A0A0A0A0A0A0A0A0A0A0A0A0A0A0A0A0A0A0A0A0A0A0A0A0A0A0A0A0A0A0A0A0A0A,
  0x0A0A0A0A0A0A0A0A0A0A0A0A0A0A0A0A0A0A0A0A0A0A0A0A0A0A0A0A0A0C0D0F1112141517181A1B1C1D1E1E1F1F1F1F1F1E1D1C1B19171513100E0A0A0A0A0A,
  0x0A0A0A0A0A0A0A0A0A0A0A0A0A0A0A0A0A0A0A0A0A0A0A0A0A0A0A0A0A0A0A0A0A0A0A0A0A0A0A0A0A0E172029323C454F586264646464646464646464646464,
  0x6464646464646464646464646464646464646464646464646464646464635B544D463F38322C26211C17130F0B0A0A0A0A0A0A0A0A0A0A0A0A0A0A0A0A0A0A0A,
  0x0A0C0E1012131517181A1B1C1D1E1E1E1E1E1E1D1D1C1A1918161412100E0C0A0A0A0A0A0A0A0A0A0A0A0A0A0A0A0A0A0A0A0A0A0A0A0A0A0A0A0A0A0A0A0A0A]

/-- Entries 0x5000 to 0x53FF (R201). -/
def flickPage5000 : List Nat := [
  0x0A0A0A0A0B0D10121416181A1C1E1F212223242425252525252424232221201E1D1C1A1817151311100E0C0B0A0A0A0A0A0A0A0A0A0A0A0A0A0A0A0A0A0A0A0A,
  0x0A0A0A0A0A0A0A0A0B0C0D0D0E0F0F10101010100F0F0E0D0C0B0A0A0A0A0A0A0A0A0A0A0A0A0A0A0A0A0A0A0A0A0A0A0A0A0A0A0A0A0A0A0A0A0A0A0A0A0A0A,
  0x0A0A0A0A0A0A0A0A0A0A0A0A0A0A0A0A0A0A0A0A0A0A0A0A0A0A0A0A0A0A0A0A0A0A0A0A0A0A0A0A0A0A0A0A0A0A0A0A0A0A0A0A0A0A0A0A0A0A0A0A0A0A0A0A,
  0x0A0A0A0A0A0A0A0A0A0A0A0A0A0A0A0A0A0A0A0A0A0A0A0A0A0A0A0A0A0A0A0A0A0A0A0A0A0A0A0A0A0A0A0A0A0A0A0A0A0A0A0A0A0B0D0F121417191C1F2326,
  0x292D3034373B3F4246494D505356585B5D5F616263646464646362605E5C5955524E4A45403A352F29221C150E0A0A0A0A0A0A0A0A0A0A0A0A0A0A0A0A0A0A0A,
  0x0A0A0A0A0A0A0A0A0A0A0A0A0A0A0A0A0A0A0A0A0A0A0A0A0A0C141B222930373D44494F54585C6063646464646464646464646463605D5955504B46413C3631,
  0x2B26201A150F0A0A0A0A0A0A0A0A0A0A0A0A0A0A0A0A0A0A0A0A0A0A0A0A0A0A0A0A0A0A0A0A0A0A0A0A0A0A0A0A0A0C0E101213141516171718181817171616,
  0x15141311100F0D0C0B0A0A0A0A0A0A0A0A0A0A0A0A0A0A0A0A0A0A0A0A0A0A0A0A0B0C0E1012141517191B1D1E20212324252627272828282828272726252423,
  0x21201E1C1A18161412100E0C0A0A0A0A0A0A0A0A0A0A0A0A0A0A0A0A0A0A0A0A0A0A0A0A0A0A0A0A0A0A0A0A0A0B0D0E10111314151617181819191919191919,
  0x18171615141311100E0C0A0A0A0A0A0A0A0A0A0A0A0A0A0A0A0A0A0A0A0A0A0A0A0A0A0A0A0A0A0A0A0A0A0A0A0A0A0A0A0A0A0A0A0A0A0A0A0A0A0A0C0D0D0E,
  0x0F101010111111111110100F0F0E0E0D0C0B0B0A0A0A0A0A0A0A0A0A0A0A0A0A0A0A0A0A0A0A0A0A0A0A0A0A0A0A0A0A0A0A0A0A0A0A0A0A0A0A0A0A0A0A0A0A,
  0x0A0A0A0A0A0A0A0A0A0A0A0A0A0A0A0A0A0A0A0A0A0B0D101215181C2023282C31363B40464B51575D6364646464646464646464646464646464646464646464,
  0x64646464646464646464646464646464646464635A51483F362D241B120A0A0A0A0A0A0A0A0A0A0A0A0A0A0A0A0A0A0A0A0A0A0A0A0A0A0A0A0A0A0A0A0A0A0A,
  0x0A0A0A0A0A0A0A0A0A0A0A0D1012141618191919191918171513110E0B0A0A0A0A0A0A0A0A0A0A0A0A0A0A0A0A0A0A0A0A0A0A0A0A0A0A0A0A0A0A0A0A0A0A0A,
  0x0A0A0A0A0A0A0A0A0A0A0A0A0A0A0A0A0A0A0A0A0A0A0A0A0A0A0A0A0A0A0A0A0A0A0A0A0A0A0A0A0A0A0A0A0A0A0A0A0A0A0A0A0A0A0A0A0A0A0A0A0A0A0A0A,
  0x0A0A0A0A0A0A0A0A0A0A0A0A0B0D0E0F11121313141515151616151514141312100F0D0C0A0A0A0A0A0A0A0A0A0A0A0A0A0A0A0A0A0A0A0A0A0A0A0A0A0A0A0A]

/-- Entries 0x5400 to 0x57FF (R201). -/
def flickPage5400 : List Nat := [
  0x0A0A0A0A0A0A0A0A0A0A0A0A0A0A0A0A0A0A0A0A0A0A0A0A0A0A0A0A0C0D0F1011121314141515151515141413131211100F0E0D0B0A0A0A0A0A0A0A0A0A0A0A,
  0x0A0A0A0A0A0A0A0A0A0A0A0A0A0A0A0A0A0A0A0A0A0A0A0C0D0E0F101011121313141414151515151514141313121211100F0E0E0D0C0B0A0A0A0A0A0A0A0A0A,
  0x0A0A0A0A0A0A0A0A0A0A0A0A0A0A0A0A0A0A0A0A0A0A0A0A0A0A0A0A0A0A0A0A0A0A0A0A0A0A0A0A0A0A0A0A0A0A0A0A0A0A0A0A0A0A0A0A0A0A0A0A0A0A0A0C,
  0x1014191E23292F363C444B525A626464646464646464646464646464646464646464646464646464646464646464646464646464646464646464646464646464,
  0x6464645F554C423930271F170F0A0A0A0A0A0A0A0A0A0A0A0A0A0A0A0A0A0A0A0A0A0A0A0A0A0A0A0A0A0A0A0A0A0A0A0A0A0A0A0A0A0A0A0A0A0A0A0A0A0A0A,
  0x0A0A0A0A0A0A0A0A0A0A0A0A0A0A0A0A0A0A0A0A0A0A0A0A0A0A0A0A0A0A0A0A0A0A0A0A0A0A0A0A0A0A0A0A0A0A0A0A0A0A0A0A0A0A0A0A0A0A0A0A0A0A0A0A,
  0x0A0A0A0A0A0A0A0A0A0A0A0A0A0A0A0A0A0A0A0A0A0A0A0A0A0A0A0A0A0A0A0A0A0A0A0A0A0A0A0A0A0A0A0A0A0A0A0A0A0A0A0A0A0A0A0A0A0A0A0A0A0A0A0A,
  0x0A0A0A0A0A0A0A0A0A0A0A0A0A0A0A0A0A0A0A0A0A0A0A0A0A0A0A0A0A0A0A0A0A0A0A0A0A0A0A0A0A0A0A0A0A0A0A0A0A0A0A0A0A0A0A0A0A0A0A0A0A0A0A0A,
  0x0A0A0A0A0A0A0A0A0A0A0A0A0A0A0A0A0A0A0A0A0A0A0A0A0A0A0A0A0A0A0A0A0A0A0A0A0A0A0A0A0A0A0A0A0A0A0A0A0A0A0A0A0A0A0A0A0A0A0A0A0A0A0A0A,
  0x0B0B0C0C0C0D0D0D0D0D0C0C0C0B0B0A0A0A0A0A0A0A0A0A0A0A0A0A0A0A0A0A0A0A0A0A0A0A0A0A0A0A0A0A0A0A0A0A0A0A0A0A0A0A0A0A0A0A0A0A0A0A0A0A,
  0x0A0A0A0A0A0A0A0A0A0A0A0A0A0A0A0A0A0A0A0A0A0A0A0A0A0A0A0A0A0A0A0A0A0A0A0A0A0A0A0A0A0A0A0A0A0A10181F272F38414A535D6464646464646464,
  0x6464646464646464646464646464646464646464646464646464646464646464646464646464646464646464646460574F473F38312A241E18130E0A0A0A0A0A,
  0x0A0A0A0A0A0A0A0A0A0A0A0A0A0A0A0A0A0A0A0A0A0B0C0D0E0F101010100F0F0E0D0B0A0A0A0A0A0A0A0A0A0A0A0A0A0A0A0A0A0A0A0A0A0A0A0A0A0A0A0A0A,
  0x0A0A0A0A0A0A0A0A0A0A0A0A0A0A0A0A0A0A0A0A0A0A0A0A0A0A0A0A0A0A0A0A0A0A0B0C0D0E0F0F101010100F0F0E0D0C0B0A0A0A0A0A0A0A0A0A0A0A0A0A0A,
  0x0A0A0A0A0A0A0A0A0A0A0A0A0A0A0A0A0A0A0A0A0A0A0A0A0A0A0A0A0A0A0A0A0A0A0A0A0A0A0A0A0A0A0A0A0A0A0A0A0A0A0A0A0A0A0A0A0A0A0A0A0A0A0A0A,
  0x0A0A0A0A0A0A0A0A0A0A0A0A0A0A0A0A0A0A0A0A0A0A0A0A0A0A0A0A0A0A0A0A0A0A0A0A0A0A0A0A0A0A0A0A0A0A0A0A0A0A0A0A0A0A0A0A0A0A0A0A0A0A0A0A]

/-- Entries 0x5800 to 0x5BFF (R201). -/
def flickPage5800 : List Nat := [
  0x0A0A0A0A0A0A0A0A0A0A0A0A0A0A0A0A0A0A0A0A0A0A0A0A0A0A0A0A0A0A0A0A0A0A0A0A0A0A0A0A0A0A0A0A0A0A0A0A0A0A0A0A0A0A0A0A0A0A0A0A0A0A0A0A,
  0x0A0A0A0A0A0A0A0A0A0A0A0A0A0A0A0A0A0B0D0F101213151718191B1C1D1E1E1F1F1F1F1F1E1E1D1B1A181613110E0B0A0A0A0A0A0A0A0A0A0A0A0A0A0A0A0A,
  0x0A0A0A0A0A0A0A0A0A0A0A0A0A0A0A0A0A0A0A0A0A0A0A0A0A0A0A0A0A0C151E27313A434D566064646464646464646464646464646464646464646464646464,
  0x6464646464646464646464646464646464645D554E47403A332D27221D1814100C0A0A0A0A0A0A0A0A0A0A0A0A0A0A0A0A0A0A0A0A0B0D0F11131517181A1B1C,
  0x1D1D1E1E1E1E1E1D1D1C1B1918161513110F0C0A0A0A0A0A0A0A0A0A0A0A0A0A0A0A0A0A0A0A0A0A0A0A0A0A0A0A0A0A0A0A0A0A0A0A0A0A0B0D0F121416181A,
  0x1C1D1F202223242425252525252424232221201F1D1C1A1917151412100E0D0B0A0A0A0A0A0A0A0A0A0A0A0A0A0A0A0A0A0A0A0A0A0A0A0A0A0A0A0A0B0C0D0D,
  0x0E0F0F10101010100F0F0E0D0C0B0A0A0A0A0A0A0A0A0A0A0A0A0A0A0A0A0A0A0A0A0A0A0A0A0A0A0A0A0A0A0A0A0A0A0A0A0A0A0A0A0A0A0A0A0A0A0A0A0A0A,
  0x0A0A0A0A0A0A0A0A0A0A0A0A0A0A0A0A0A0A0A0A0A0A0A0A0A0A0A0A0A0A0A0A0A0A0A0A0A0A0A0A0A0A0A0A0A0A0A0A0A0A0A0A0A0A0A0A0A0A0A0A0A0A0A0A,
  0x0A0A0A0A0A0A0A0A0A0A0A0A0A0A0A0A0A0A0A0A0A0A0A0A0A0A0A0A0A0A0A0A0A0A0A0A0A0A0A0A0A0B0D0F111416191C1F2225292C3033373A3E4245494C4F,
  0x5255585A5D5F606263646464646362605E5C5956534F4A46413B36302A241D16100A0A0A0A0A0A0A0A0A0A0A0A0A0A0A0A0A0A0A0A0A0A0A0A0A0A0A0A0A0A0A,
  0x0A0A0A0A0A0A0A0A0A0A0A0A0A0B121A21282F363C42484E53575C6063646464646464646464646464615D5A55514C47423D37322C27211B16100B0A0A0A0A0A,
  0x0A0A0A0A0A0A0A0A0A0A0A0A0A0A0A0A0A0A0A0A0A0A0A0A0A0A0A0A0A0A0A0A0A0A0A0C0E10111314151617171818181717161615141312100F0E0C0B0A0A0A,
  0x0A0A0A0A0A0A0A0A0A0A0A0A0A0A0A0A0A0A0A0A0A0A0C0E1011131517191B1C1E2021222425262727282828282827272625242321201E1D1B19171513110E0C,
  0x0A0A0A0A0A0A0A0A0A0A0A0A0A0A0A0A0A0A0A0A0A0A0A0A0A0A0A0A0A0A0A0A0A0B0C0E0F11121415161718181919191919191918171615141311100E0D0B0A,
  0x0A0A0A0A0A0A0A0A0A0A0A0A0A0A0A0A0A0A0A0A0A0A0A0A0A0A0A0A0A0A0A0A0A0A0A0A0A0A0A0A0A0A0A0A0A0A0A0A0B0C0D0E0F0F10101111111111101010,
  0x0F0E0E0D0C0C0B0A0A0A0A0A0A0A0A0A0A0A0A0A0A0A0A0A0A0A0A0A0A0A0A0A0A0A0A0A0A0A0A0A0A0A0A0A0A0A0A0A0A0A0A0A0A0A0A0A0A0A0A0A0A0A0A0A]

/-- Entries 0x5C00 to 0x5FFF (R201). -/
def flickPage5C00 : List Nat := [
  0x0A0A0A0A0A0A0A0A0A0A0D0F1215181B1F23272B30353A3F454A50565C6264646464646464646464646464646464646464646464646464646464646464646464,
  0x64646464646464645C534A41382F261D140B0A0A0A0A0A0A0A0A0A0A0A0A0A0A0A0A0A0A0A0A0A0A0A0A0A0A0A0A0A0A0A0A0A0A0A0A0A0A0A0A0A0A0A0A0A0C,
  0x0F12141617181919191918171513110F0C0A0A0A0A0A0A0A0A0A0A0A0A0A0A0A0A0A0A0A0A0A0A0A0A0A0A0A0A0A0A0A0A0A0A0A0A0A0A0A0A0A0A0A0A0A0A0A,
  0x0A0A0A0A0A0A0A0A0A0A0A0A0A0A0A0A0A0A0A0A0A0A0A0A0A0A0A0A0A0A0A0A0A0A0A0A0A0A0A0A0A0A0A0A0A0A0A0A0A0A0A0A0A0A0A0A0A0A0A0A0A0A0A0A,
  0x0B0D0E0F10111213141515151616151514141312110F0E0C0A0A0A0A0A0A0A0A0A0A0A0A0A0A0A0A0A0A0A0A0A0A0A0A0A0A0A0A0A0A0A0A0A0A0A0A0A0A0A0A,
  0x0A0A0A0A0A0A0A0A0A0A0A0A0A0A0A0A0B0D0F1011121314141515151515151413131211100F0E0D0C0B0A0A0A0A0A0A0A0A0A0A0A0A0A0A0A0A0A0A0A0A0A0A,
  0x0A0A0A0A0A0A0A0A0A0A0A0B0C0D0E0F101112131314141415151515151414141312121110100F0E0D0C0B0A0A0A0A0A0A0A0A0A0A0A0A0A0A0A0A0A0A0A0A0A,
  0x0A0A0A0A0A0A0A0A0A0A0A0A0A0A0A0A0A0A0A0A0A0A0A0A0A0A0A0A0A0A0A0A0A0A0A0A0A0A0A0A0A0A0A0A0A0A0A0A0A0A0A0B0F13181D22282E343B424951,
  0x5961646464646464646464646464646464646464646464646464646464646464646464646464646464646464646464646464646464646461574E443B32292018,
  0x100A0A0A0A0A0A0A0A0A0A0A0A0A0A0A0A0A0A0A0A0A0A0A0A0A0A0A0A0A0A0A0A0A0A0A0A0A0A0A0A0A0A0A0A0A0A0A0A0A0A0A0A0A0A0A0A0A0A0A0A0A0A0A,
  0x0A0A0A0A0A0A0A0A0A0A0A0A0A0A0A0A0A0A0A0A0A0A0A0A0A0A0A0A0A0A0A0A0A0A0A0A0A0A0A0A0A0A0A0A0A0A0A0A0A0A0A0A0A0A0A0A0A0A0A0A0A0A0A0A,
  0x0A0A0A0A0A0A0A0A0A0A0A0A0A0A0A0A0A0A0A0A0A0A0A0A0A0A0A0A0A0A0A0A0A0A0A0A0A0A0A0A0A0A0A0A0A0A0A0A0A0A0A0A0A0A0A0A0A0A0A0A0A0A0A0A,
  0x0A0A0A0A0A0A0A0A0A0A0A0A0A0A0A0A0A0A0A0A0A0A0A0A0A0A0A0A0A0A0A0A0A0A0A0A0A0A0A0A0A0A0A0A0A0A0A0A0A0A0A0A0A0A0A0A0A0A0A0A0A0A0A0A,
  0x0A0A0A0A0A0A0A0A0A0A0A0A0A0A0A0A0A0A0A0A0A0A0A0A0A0A0A0A0A0A0A0A0A0A0A0A0A0A0A0A0A0A0A0A0A0A0A0A0A0A0A0A0B0B0C0C0C0D0D0D0D0D0C0C,
  0x0C0B0B0A0A0A0A0A0A0A0A0A0A0A0A0A0A0A0A0A0A0A0A0A0A0A0A0A0A0A0A0A0A0A0A0A0A0A0A0A0A0A0A0A0A0A0A0A0A0A0A0A0A0A0A0A0A0A0A0A0A0A0A0A,
  0x0A0A0A0A0A0A0A0A0A0A0A0A0A0A0A0A0A0A0A0A0A0A0A0A0A0A0A0A0A0A0A0A0A0A0F161E262E363F48525B6464646464646464646464646464646464646464]

/-- Entries 0x6000 to 0x63FF (R201). -/
def flickPage6000 : List Nat := [
  0x64646464646464646464646464646464646464646464646464646464646464646464625951484139322B251F19140F0B0A0A0A0A0A0A0A0A0A0A0A0A0A0A0A0A,
  0x0A0A0A0A0A0A0A0A0A0B0C0D0E0F0F1010100F0F0E0D0B0A0A0A0A0A0A0A0A0A0A0A0A0A0A0A0A0A0A0A0A0A0A0A0A0A0A0A0A0A0A0A0A0A0A0A0A0A0A0A0A0A,
  0x0A0A0A0A0A0A0A0A0A0A0A0A0A0A0A0A0A0A0A0A0A0A0B0C0D0E0F0F101010100F0F0E0D0D0C0A0A0A0A0A0A0A0A0A0A0A0A0A0A0A0A0A0A0A0A0A0A0A0A0A0A,
  0x0A0A0A0A0A0A0A0A0A0A0A0A0A0A0A0A0A0A0A0A0A0A0A0A0A0A0A0A0A0A0A0A0A0A0A0A0A0A0A0A0A0A0A0A0A0A0A0A0A0A0A0A0A0A0A0A0A0A0A0A0A0A0A0A,
  0x0A0A0A0A0A0A0A0A0A0A0A0A0A0A0A0A0A0A0A0A0A0A0A0A0A0A0A0A0A0A0A0A0A0A0A0A0A0A0A0A0A0A0A0A0A0A0A0A0A0A0A0A0A0A0A0A0A0A0A0A0A0A0A0A,
  0x0A0A0A0A0A0A0A0A0A0A0A0A0A0A0A0A0A0A0A0A0A0A0A0A0A0A0A0A0A0A0A0A0A0A0A0A0A0A0A0A0A0A0A0A0A0A0A0A0A0A0A0A0A0A0A0A0A0A0A0A0A0A0A0A,
  0x0A0A0A0A0A0B0D0E101213151618191A1C1D1E1E1F1F1F1F1F1E1E1D1B1A181614110F0C0A0A0A0A0A0A0A0A0A0A0A0A0A0A0A0A0A0A0A0A0A0A0A0A0A0A0A0A,
  0x0A0A0A0A0A0A0A0A0A0A0A0A0A0A0A0A0A0B131C252F38424B555E64646464646464646464646464646464646464646464646464646464646464646464646464,
  0x6464646464645E575049423B352E29231E1915100D0A0A0A0A0A0A0A0A0A0A0A0A0A0A0A0A0A0A0A0A0B0D0F1113151618191B1C1D1D1E1E1E1E1E1E1D1C1B1A,
  0x18171513110F0D0B0A0A0A0A0A0A0A0A0A0A0A0A0A0A0A0A0A0A0A0A0A0A0A0A0A0A0A0A0A0A0A0A0A0A0A0A0A0D0F111316181A1B1D1F202122232425252525,
  0x252524232221201F1E1C1B1917161412100F0D0B0A0A0A0A0A0A0A0A0A0A0A0A0A0A0A0A0A0A0A0A0A0A0A0A0A0A0A0A0B0C0C0D0E0F0F0F101010100F0F0E0E,
  0x0D0C0A0A0A0A0A0A0A0A0A0A0A0A0A0A0A0A0A0A0A0A0A0A0A0A0A0A0A0A0A0A0A0A0A0A0A0A0A0A0A0A0A0A0A0A0A0A0A0A0A0A0A0A0A0A0A0A0A0A0A0A0A0A,
  0x0A0A0A0A0A0A0A0A0A0A0A0A0A0A0A0A0A0A0A0A0A0A0A0A0A0A0A0A0A0A0A0A0A0A0A0A0A0A0A0A0A0A0A0A0A0A0A0A0A0A0A0A0A0A0A0A0A0A0A0A0A0A0A0A,
  0x0A0A0A0A0A0A0A0A0A0A0A0A0A0A0A0A0A0A0A0A0A0A0A0A0A0A0A0A0A0A0C0E111316181B1E2125282B2F32363A3D4144484B4F5255575A5C5E606263646464,
  0x646362615F5D5A57534F4B47423D37312B251E18110A0A0A0A0A0A0A0A0A0A0A0A0A0A0A0A0A0A0A0A0A0A0A0A0A0A0A0A0A0A0A0A0A0A0A0A0A0A0A0A0A0A0A,
  0x0A0A11181F272E343B41474D52575B5F62646464646464646464646464615E5A56524D48433E39332D28221C17110C0A0A0A0A0A0A0A0A0A0A0A0A0A0A0A0A0A]

/-- Entries 0x6400 to 0x67FF (R201). -/
def flickPage6400 : List Nat := [
  0x0A0A0A0A0A0A0A0A0A0A0A0A0A0A0A0A0A0A0A0A0A0A0A0B0D0F111214151617171818181817171615141312110F0E0D0B0A0A0A0A0A0A0A0A0A0A0A0A0A0A0A,
  0x0A0A0A0A0A0A0A0A0A0A0C0D0F11131517181A1C1E1F21222325262627282828282828272625242322201F1D1B19171513110F0D0B0A0A0A0A0A0A0A0A0A0A0A,
  0x0A0A0A0A0A0A0A0A0A0A0A0A0A0A0A0A0A0A0A0A0A0A0C0E0F11121315161717181919191919191918171716141312100F0D0B0A0A0A0A0A0A0A0A0A0A0A0A0A,
  0x0A0A0A0A0A0A0A0A0A0A0A0A0A0A0A0A0A0A0A0A0A0A0A0A0A0A0A0A0A0A0A0A0A0A0A0A0B0C0D0E0F0F101011111111111010100F0F0E0D0C0C0B0A0A0A0A0A,
  0x0A0A0A0A0A0A0A0A0A0A0A0A0A0A0A0A0A0A0A0A0A0A0A0A0A0A0A0A0A0A0A0A0A0A0A0A0A0A0A0A0A0A0A0A0A0A0A0A0A0A0A0A0A0A0A0A0A0A0A0A0A0A0C0F,
  0x1114171A1E22262A2F34393E43494F555B616464646464646464646464646464646464646464646464646464646464646464646464646464646464645E554C43,
  0x3A30271E150D0A0A0A0A0A0A0A0A0A0A0A0A0A0A0A0A0A0A0A0A0A0A0A0A0A0A0A0A0A0A0A0A0A0A0A0A0A0A0A0A0A0A0A0A0A0B0E1113151718191919191817,
  0x1614120F0C0A0A0A0A0A0A0A0A0A0A0A0A0A0A0A0A0A0A0A0A0A0A0A0A0A0A0A0A0A0A0A0A0A0A0A0A0A0A0A0A0A0A0A0A0A0A0A0A0A0A0A0A0A0A0A0A0A0A0A,
  0x0A0A0A0A0A0A0A0A0A0A0A0A0A0A0A0A0A0A0A0A0A0A0A0A0A0A0A0A0A0A0A0A0A0A0A0A0A0A0A0A0A0A0A0A0A0A0A0A0A0A0A0A0B0C0E0F1011121314141515,
  0x161615151514131211100E0C0B0A0A0A0A0A0A0A0A0A0A0A0A0A0A0A0A0A0A0A0A0A0A0A0A0A0A0A0A0A0A0A0A0A0A0A0A0A0A0A0A0A0A0A0A0A0A0A0A0A0A0A,
  0x0A0A0A0A0B0D0E1011121314141515151515151414131211100F0E0D0C0B0A0A0A0A0A0A0A0A0A0A0A0A0A0A0A0A0A0A0A0A0A0A0A0A0A0A0A0A0A0A0A0A0A0B,
  0x0C0D0E0F101112121314141415151515151414141313121110100F0E0D0C0B0A0A0A0A0A0A0A0A0A0A0A0A0A0A0A0A0A0A0A0A0A0A0A0A0A0A0A0A0A0A0A0A0A,
  0x0A0A0A0A0A0A0A0A0A0A0A0A0A0A0A0A0A0A0A0A0A0A0A0A0A0A0A0A0A0A0A0A0A0A0A0A0A0A0A0A0E12171C21272D333A41484F575F64646464646464646464,
  0x64646464646464646464646464646464646464646464646464646464646464646464646464646464646464635950463D332B221A120A0A0A0A0A0A0A0A0A0A0A,
  0x0A0A0A0A0A0A0A0A0A0A0A0A0A0A0A0A0A0A0A0A0A0A0A0A0A0A0A0A0A0A0A0A0A0A0A0A0A0A0A0A0A0A0A0A0A0A0A0A0A0A0A0A0A0A0A0A0A0A0A0A0A0A0A0A,
  0x0A0A0A0A0A0A0A0A0A0A0A0A0A0A0A0A0A0A0A0A0A0A0A0A0A0A0A0A0A0A0A0A0A0A0A0A0A0A0A0A0A0A0A0A0A0A0A0A0A0A0A0A0A0A0A0A0A0A0A0A0A0A0A0A]

/-- Entries 0x6800 to 0x6BFF (R201). -/
def flickPage6800 : List Nat := [
  0x0A0A0A0A0A0A0A0A0A0A0A0A0A0A0A0A0A0A0A0A0A0A0A0A0A0A0A0A0A0A0A0A0A0A0A0A0A0A0A0A0A0A0A0A0A0A0A0A0A0A0A0A0A0A0A0A0A0A0A0A0A0A0A0A,
  0x0A0A0A0A0A0A0A0A0A0A0A0A0A0A0A0A0A0A0A0A0A0A0A0A0A0A0A0A0A0A0A0A0A0A0A0A0A0A0A0A0A0A0A0A0A0A0A0A0A0A0A0A0A0A0A0A0A0A0A0A0A0A0A0A,
  0x0A0A0A0A0A0A0A0A0A0A0A0A0A0A0A0A0A0A0A0A0A0A0A0A0A0A0A0A0A0A0A0A0A0A0A0A0A0A0A0A0B0B0C0C0C0D0D0D0D0D0C0C0C0B0B0A0A0A0A0A0A0A0A0A,
  0x0A0A0A0A0A0A0A0A0A0A0A0A0A0A0A0A0A0A0A0A0A0A0A0A0A0A0A0A0A0A0A0A0A0A0A0A0A0A0A0A0A0A0A0A0A0A0A0A0A0A0A0A0A0A0A0A0A0A0A0A0A0A0A0A,
  0x0A0A0A0A0A0A0A0A0A0A0A0A0A0A0A0A0A0A0A0A0A0A0E151C242C353D4650596364646464646464646464646464646464646464646464646464646464646464,
  0x64646464646464646464646464646464646464646464635B524A423B332C26201A15100C0A0A0A0A0A0A0A0A0A0A0A0A0A0A0A0A0A0A0A0A0A0A0A0A0A0B0C0D,
  0x0E0F0F1010100F0F0E0D0C0A0A0A0A0A0A0A0A0A0A0A0A0A0A0A0A0A0A0A0A0A0A0A0A0A0A0A0A0A0A0A0A0A0A0A0A0A0A0A0A0A0A0A0A0A0A0A0A0A0A0A0A0A,
  0x0A0A0A0A0A0A0A0A0A0A0A0C0D0E0F0F101010100F0F0E0E0D0C0B0A0A0A0A0A0A0A0A0A0A0A0A0A0A0A0A0A0A0A0A0A0A0A0A0A0A0A0A0A0A0A0A0A0A0A0A0A,
  0x0A0A0A0A0A0A0A0A0A0A0A0A0A0A0A0A0A0A0A0A0A0A0A0A0A0A0A0A0A0A0A0A0A0A0A0A0A0A0A0A0A0A0A0A0A0A0A0A0A0A0A0A0A0A0A0A0A0A0A0A0A0A0A0A,
  0x0A0A0A0A0A0A0A0A0A0A0A0A0A0A0A0A0A0A0A0A0A0A0A0A0A0A0A0A0A0A0A0A0A0A0A0A0A0A0A0A0A0A0A0A0A0A0A0A0A0A0A0A0A0A0A0A0A0A0A0A0A0A0A0A,
  0x0A0A0A0A0A0A0A0A0A0A0A0A0A0A0A0A0A0A0A0A0A0A0A0A0A0A0A0A0A0A0A0A0A0A0A0A0A0A0A0A0A0A0A0A0A0A0A0A0A0A0A0A0A0A0A0A0A0B0C0E10111314,
  0x1617191A1B1C1D1E1F1F1F1F1F1F1E1D1C1A191714120F0C0A0A0A0A0A0A0A0A0A0A0A0A0A0A0A0A0A0A0A0A0A0A0A0A0A0A0A0A0A0A0A0A0A0A0A0A0A0A0A0A,
  0x0A0A0A0A0A0A121B242D364049535C646464646464646464646464646464646464646464646464646464646464646464646464646464646464646058514A433C,
  0x36302A241F1A15110D0A0A0A0A0A0A0A0A0A0A0A0A0A0A0A0A0A0A0A0A0B0D0F1112141618191A1B1C1D1E1E1E1E1E1E1D1C1B1A18171513110F0D0B0A0A0A0A,
  0x0A0A0A0A0A0A0A0A0A0A0A0A0A0A0A0A0A0A0A0A0A0A0A0A0A0A0A0A0A0A0A0A0A0C0E11131517191B1D1E202122232425252525252524232322211F1E1C1B19,
  0x18161412110F0D0C0A0A0A0A0A0A0A0A0A0A0A0A0A0A0A0A0A0A0A0A0A0A0A0A0A0A0A0A0A0B0C0D0E0E0F0F10101010100F0E0E0D0C0A0A0A0A0A0A0A0A0A0A]

/-- Entries 0x6C00 to 0x6FFF (R201). -/
def flickPage6C00 : List Nat := [
  0x0A0A0A0A0A0A0A0A0A0A0A0A0A0A0A0A0A0A0A0A0A0A0A0A0A0A0A0A0A0A0A0A0A0A0A0A0A0A0A0A0A0A0A0A0A0A0A0A0A0A0A0A0A0A0A0A0A0A0A0A0A0A0A0A,
  0x0A0A0A0A0A0A0A0A0A0A0A0A0A0A0A0A0A0A0A0A0A0A0A0A0A0A0A0A0A0A0A0A0A0A0A0A0A0A0A0A0A0A0A0A0A0A0A0A0A0A0A0A0A0A0A0A0A0A0A0A0A0A0A0A,
  0x0A0A0A0A0A0A0A0A0A0A0A0A0A0A0A0A0A0A0C0E101315181B1E2124272B2E3235393D4044474B4E515457595C5E606163636464646362615F5D5A5754504C48,
  0x433E38322C262019120B0A0A0A0A0A0A0A0A0A0A0A0A0A0A0A0A0A0A0A0A0A0A0A0A0A0A0A0A0A0A0A0A0A0A0A0A0A0A0A0A0A0A0A0A0F171E252C333A40464C,
  0x51565A5E62646464646464646464646464625F5B57534E49443F3A342E29231D18120D0A0A0A0A0A0A0A0A0A0A0A0A0A0A0A0A0A0A0A0A0A0A0A0A0A0A0A0A0A,
  0x0A0A0A0A0A0A0A0A0A0A0A0B0D0F11121415161717181818181717161514131211100E0D0B0A0A0A0A0A0A0A0A0A0A0A0A0A0A0A0A0A0A0A0A0A0A0A0A0A0B0D,
  0x0F11131416181A1C1D1F21222324252627282828282828272626252322211F1D1B1A181614110F0D0B0A0A0A0A0A0A0A0A0A0A0A0A0A0A0A0A0A0A0A0A0A0A0A,
  0x0A0A0A0A0A0A0A0A0A0A0C0D0F10121314151617181919191919191918181716151312100F0D0B0A0A0A0A0A0A0A0A0A0A0A0A0A0A0A0A0A0A0A0A0A0A0A0A0A,
  0x0A0A0A0A0A0A0A0A0A0A0A0A0A0A0A0A0A0A0A0A0A0A0A0A0B0C0D0E0F0F101010111111111010100F0F0E0D0D0C0B0A0A0A0A0A0A0A0A0A0A0A0A0A0A0A0A0A,
  0x0A0A0A0A0A0A0A0A0A0A0A0A0A0A0A0A0A0A0A0A0A0A0A0A0A0A0A0A0A0A0A0A0A0A0A0A0A0A0A0A0A0A0A0A0A0A0A0A0A0A0C0E1113161A1D2125292E33383D,
  0x42484E545A606464646464646464646464646464646464646464646464646464646464646464646464646464646464645F574E453B322920170E0A0A0A0A0A0A,
  0x0A0A0A0A0A0A0A0A0A0A0A0A0A0A0A0A0A0A0A0A0A0A0A0A0A0A0A0A0A0A0A0A0A0A0A0A0A0A0A0B0E1113151718191919191917161412100D0A0A0A0A0A0A0A,
  0x0A0A0A0A0A0A0A0A0A0A0A0A0A0A0A0A0A0A0A0A0A0A0A0A0A0A0A0A0A0A0A0A0A0A0A0A0A0A0A0A0A0A0A0A0A0A0A0A0A0A0A0A0A0A0A0A0A0A0A0A0A0A0A0A,
  0x0A0A0A0A0A0A0A0A0A0A0A0A0A0A0A0A0A0A0A0A0A0A0A0A0A0A0A0A0A0A0A0A0A0A0A0A0A0A0A0A0B0C0D0F1011121314141515151615151514131211100E0D,
  0x0B0A0A0A0A0A0A0A0A0A0A0A0A0A0A0A0A0A0A0A0A0A0A0A0A0A0A0A0A0A0A0A0A0A0A0A0A0A0A0A0A0A0A0A0A0A0A0A0A0A0A0A0A0A0A0A0B0C0E0F11121314,
  0x141515151515151414131211100F0E0D0C0B0A0A0A0A0A0A0A0A0A0A0A0A0A0A0A0A0A0A0A0A0A0A0A0A0A0A0A0A0A0A0A0A0A0B0C0D0E0F1011121213131414]

/-- Entries 0x7000 to 0x73FF (R201). -/
def flickPage7000 : List Nat := [
  0x15151515151414141313121111100F0E0D0C0B0A0A0A0A0A0A0A0A0A0A0A0A0A0A0A0A0A0A0A0A0A0A0A0A0A0A0A0A0A0A0A0A0A0A0A0A0A0A0A0A0A0A0A0A0A,
  0x0A0A0A0A0A0A0A0A0A0A0A0A0A0A0A0A0A0A0A0A0A0A0A0A0A0A0A0A0D11161B20262C32383F474E565E64646464646464646464646464646464646464646464,
  0x64646464646464646464646464646464646464646464646464646464646464645B51483E352C241B130C0A0A0A0A0A0A0A0A0A0A0A0A0A0A0A0A0A0A0A0A0A0A,
  0x0A0A0A0A0A0A0A0A0A0A0A0A0A0A0A0A0A0A0A0A0A0A0A0A0A0A0A0A0A0A0A0A0A0A0A0A0A0A0A0A0A0A0A0A0A0A0A0A0A0A0A0A0A0A0A0A0A0A0A0A0A0A0A0A,
  0x0A0A0A0A0A0A0A0A0A0A0A0A0A0A0A0A0A0A0A0A0A0A0A0A0A0A0A0A0A0A0A0A0A0A0A0A0A0A0A0A0A0A0A0A0A0A0A0A0A0A0A0A0A0A0A0A0A0A0A0A0A0A0A0A,
  0x0A0A0A0A0A0A0A0A0A0A0A0A0A0A0A0A0A0A0A0A0A0A0A0A0A0A0A0A0A0A0A0A0A0A0A0A0A0A0A0A0A0A0A0A0A0A0A0A0A0A0A0A0A0A0A0A0A0A0A0A0A0A0A0A,
  0x0A0A0A0A0A0A0A0A0A0A0A0A0A0A0A0A0A0A0A0A0A0A0A0A0A0A0A0A0A0A0A0A0A0A0A0A0A0A0A0A0A0A0A0A0A0A0A0A0A0A0A0A0A0A0A0A0A0A0A0A0A0A0A0A,
  0x0A0A0A0A0A0A0A0A0A0A0A0A0A0A0A0A0A0A0A0A0A0A0A0A0A0A0A0A0B0B0C0C0C0D0D0D0D0D0C0C0C0C0B0B0A0A0A0A0A0A0A0A0A0A0A0A0A0A0A0A0A0A0A0A,
  0x0A0A0A0A0A0A0A0A0A0A0A0A0A0A0A0A0A0A0A0A0A0A0A0A0A0A0A0A0A0A0A0A0A0A0A0A0A0A0A0A0A0A0A0A0A0A0A0A0A0A0A0A0A0A0A0A0A0A0A0A0A0A0A0A,
  0x0A0A0A0A0A0A0A0A0A0A0C131B222B333C454E576164646464646464646464646464646464646464646464646464646464646464646464646464646464646464,
  0x64646464646464646464645C544C443C352E27211B16110D0A0A0A0A0A0A0A0A0A0A0A0A0A0A0A0A0A0A0A0A0A0A0A0A0A0A0C0D0E0F0F1010100F0F0E0D0C0B,
  0x0A0A0A0A0A0A0A0A0A0A0A0A0A0A0A0A0A0A0A0A0A0A0A0A0A0A0A0A0A0A0A0A0A0A0A0A0A0A0A0A0A0A0A0A0A0A0A0A0A0A0A0A0A0A0A0A0A0A0A0A0A0A0A0B,
  0x0D0E0E0F101010100F0F0E0E0D0C0B0A0A0A0A0A0A0A0A0A0A0A0A0A0A0A0A0A0A0A0A0A0A0A0A0A0A0A0A0A0A0A0A0A0A0A0A0A0A0A0A0A0A0A0A0A0A0A0A0A,
  0x0A0A0A0A0A0A0A0A0A0A0A0A0A0A0A0A0A0A0A0A0A0A0A0A0A0A0A0A0A0A0A0A0A0A0A0A0A0A0A0A0A0A0A0A0A0A0A0A0A0A0A0A0A0A0A0A0A0A0A0A0A0A0A0A,
  0x0A0A0A0A0A0A0A0A0A0A0A0A0A0A0A0A0A0A0A0A0A0A0A0A0A0A0A0A0A0A0A0A0A0A0A0A0A0A0A0A0A0A0A0A0A0A0A0A0A0A0A0A0A0A0A0A0A0A0A0A0A0A0A0A,
  0x0A0A0A0A0A0A0A0A0A0A0A0A0A0A0A0A0A0A0A0A0A0A0A0A0A0A0A0A0A0A0A0A0A0A0A0A0A0A0A0A0A0A0A0A0A0B0C0E0F1113141617191A1B1C1D1E1F1F1F1F]

/-- Entries 0x7400 to 0x77FF (R201). -/
def flickPage7400 : List Nat := [
  0x1F1F1E1D1C1B19171512100D0A0A0A0A0A0A0A0A0A0A0A0A0A0A0A0A0A0A0A0A0A0A0A0A0A0A0A0A0A0A0A0A0A0A0A0A0A0A0A0A0A0A0A0A0A0A1019222B343E,
  0x47515A64646464646464646464646464646464646464646464646464646464646464646464646464646464646464615A524B443E37312B25201B16120E0B0A0A,
  0x0A0A0A0A0A0A0A0A0A0A0A0A0A0A0A0A0A0A0C0E1012141617191A1B1C1D1E1E1E1E1E1E1D1C1B1A1917161412100E0B0A0A0A0A0A0A0A0A0A0A0A0A0A0A0A0A,
  0x0A0A0A0A0A0A0A0A0A0A0A0A0A0A0A0A0A0A0A0A0A0C0E10131517191B1D1E20212223242425252525252424232221201E1D1B1A18161513110F0E0C0A0A0A0A,
  0x0A0A0A0A0A0A0A0A0A0A0A0A0A0A0A0A0A0A0A0A0A0A0A0A0A0B0C0D0E0E0F0F10101010100F0F0E0D0C0B0A0A0A0A0A0A0A0A0A0A0A0A0A0A0A0A0A0A0A0A0A,
  0x0A0A0A0A0A0A0A0A0A0A0A0A0A0A0A0A0A0A0A0A0A0A0A0A0A0A0A0A0A0A0A0A0A0A0A0A0A0A0A0A0A0A0A0A0A0A0A0A0A0A0A0A0A0A0A0A0A0A0A0A0A0A0A0A,
  0x0A0A0A0A0A0A0A0A0A0A0A0A0A0A0A0A0A0A0A0A0A0A0A0A0A0A0A0A0A0A0A0A0A0A0A0A0A0A0A0A0A0A0A0A0A0A0A0A0A0A0A0A0A0A0A0A0A0A0A0A0A0A0A0A,
  0x0A0A0A0A0A0A0C0E101215171A1D2023272A2E3135383C4043474A4D505456595B5E5F616263646464636361605D5B5855514D49443F39332D27211A140D0A0A,
  0x0A0A0A0A0A0A0A0A0A0A0A0A0A0A0A0A0A0A0A0A0A0A0A0A0A0A0A0A0A0A0A0A0A0A0A0A0A0A0A0A0A0A0E151D242B32383F454B5055595D6164646464646464,
  0x6464646464625F5C58544F4A45403B35302A241F19130E0A0A0A0A0A0A0A0A0A0A0A0A0A0A0A0A0A0A0A0A0A0A0A0A0A0A0A0A0A0A0A0A0A0A0A0A0A0A0A0A0A,
  0x0C0E10121315161617181818181717161514131211100E0D0C0A0A0A0A0A0A0A0A0A0A0A0A0A0A0A0A0A0A0A0A0A0A0A0A0A0B0D0F10121416181A1B1D1F2022,
  0x2324252627272828282828272726252422211F1E1C1A18161412100E0C0A0A0A0A0A0A0A0A0A0A0A0A0A0A0A0A0A0A0A0A0A0A0A0A0A0A0A0A0A0A0A0A0A0B0D,
  0x0F10111314151617181819191919191918181716151412110F0E0C0A0A0A0A0A0A0A0A0A0A0A0A0A0A0A0A0A0A0A0A0A0A0A0A0A0A0A0A0A0A0A0A0A0A0A0A0A,
  0x0A0A0A0A0A0A0A0A0A0A0A0A0B0C0D0E0E0F101010111111111010100F0F0E0E0D0C0B0A0A0A0A0A0A0A0A0A0A0A0A0A0A0A0A0A0A0A0A0A0A0A0A0A0A0A0A0A,
  0x0A0A0A0A0A0A0A0A0A0A0A0A0A0A0A0A0A0A0A0A0A0A0A0A0A0A0A0A0A0A0A0A0A0A0A0A0A0A0B0E101316191D2024292D32373C41474D52585E646464646464,
  0x64646464646464646464646464646464646464646464646464646464646464646464646461584F463D342B2219100A0A0A0A0A0A0A0A0A0A0A0A0A0A0A0A0A0A]

/-- Entries 0x7800 to 0x7BFF (R201). -/
def flickPage7800 : List Nat := [
  0x0A0A0A0A0A0A0A0A0A0A0A0A0A0A0A0A0A0A0A0A0A0A0A0A0A0A0A0A0D1013151618191919191918161513100D0A0A0A0A0A0A0A0A0A0A0A0A0A0A0A0A0A0A0A,
  0x0A0A0A0A0A0A0A0A0A0A0A0A0A0A0A0A0A0A0A0A0A0A0A0A0A0A0A0A0A0A0A0A0A0A0A0A0A0A0A0A0A0A0A0A0A0A0A0A0A0A0A0A0A0A0A0A0A0A0A0A0A0A0A0A,
  0x0A0A0A0A0A0A0A0A0A0A0A0A0A0A0A0A0A0A0A0A0A0A0A0A0A0A0A0A0A0C0D0E1011121314141515151615151514131211100F0D0B0A0A0A0A0A0A0A0A0A0A0A,
  0x0A0A0A0A0A0A0A0A0A0A0A0A0A0A0A0A0A0A0A0A0A0A0A0A0A0A0A0A0A0A0A0A0A0A0A0A0A0A0A0A0A0A0A0A0A0C0E0F10121313141515151515151414131212,
  0x11100F0E0C0B0A0A0A0A0A0A0A0A0A0A0A0A0A0A0A0A0A0A0A0A0A0A0A0A0A0A0A0A0A0A0A0A0A0B0C0D0E0F1011111213131414151515151515141413131212,
  0x11100F0E0D0C0B0B0A0A0A0A0A0A0A0A0A0A0A0A0A0A0A0A0A0A0A0A0A0A0A0A0A0A0A0A0A0A0A0A0A0A0A0A0A0A0A0A0A0A0A0A0A0A0A0A0A0A0A0A0A0A0A0A,
  0x0A0A0A0A0A0A0A0A0A0A0A0A0A0A0A0A0C11151A1F252A31373E454C545C64646464646464646464646464646464646464646464646464646464646464646464,
  0x64646464646464646464646464646464646464645D534A40372E251D150D0A0A0A0A0A0A0A0A0A0A0A0A0A0A0A0A0A0A0A0A0A0A0A0A0A0A0A0A0A0A0A0A0A0A,
  0x0A0A0A0A0A0A0A0A0A0A0A0A0A0A0A0A0A0A0A0A0A0A0A0A0A0A0A0A0A0A0A0A0A0A0A0A0A0A0A0A0A0A0A0A0A0A0A0A0A0A0A0A0A0A0A0A0A0A0A0A0A0A0A0A,
  0x0A0A0A0A0A0A0A0A0A0A0A0A0A0A0A0A0A0A0A0A0A0A0A0A0A0A0A0A0A0A0A0A0A0A0A0A0A0A0A0A0A0A0A0A0A0A0A0A0A0A0A0A0A0A0A0A0A0A0A0A0A0A0A0A,
  0x0A0A0A0A0A0A0A0A0A0A0A0A0A0A0A0A0A0A0A0A0A0A0A0A0A0A0A0A0A0A0A0A0A0A0A0A0A0A0A0A0A0A0A0A0A0A0A0A0A0A0A0A0A0A0A0A0A0A0A0A0A0A0A0A,
  0x0A0A0A0A0A0A0A0A0A0A0A0A0A0A0A0A0A0A0A0A0A0A0A0A0A0A0A0A0A0A0A0A0A0A0A0A0A0A0A0A0A0A0A0A0A0A0A0A0A0A0A0A0A0A0A0A0A0A0A0A0A0A0A0A,
  0x0A0A0A0A0A0A0A0A0A0A0A0A0A0A0A0A0B0B0C0C0C0C0D0D0D0D0D0C0C0C0B0B0A0A0A0A0A0A0A0A0A0A0A0A0A0A0A0A0A0A0A0A0A0A0A0A0A0A0A0A0A0A0A0A,
  0x0A0A0A0A0A0A0A0A0A0A0A0A0A0A0A0A0A0A0A0A0A0A0A0A0A0A0A0A0A0A0A0A0A0A0A0A0A0A0A0A0A0A0A0A0A0A0A0A0A0A0A0A0A0A0A0A0A0A0A0A0A0A0B12,
  0x192129313A434C565F6464646464646464646464646464646464646464646464646464646464646464646464646464646464646464646464646464646464645E,
  0x564D453D362F28221C17120E0A0A0A0A0A0A0A0A0A0A0A0A0A0A0A0A0A0A0A0A0A0A0A0A0A0A0C0D0E0F0F101010100F0E0D0C0B0A0A0A0A0A0A0A0A0A0A0A0A]

/-- Entries 0x7C00 to 0x7FFF (R201). -/
def flickPage7C00 : List Nat := [
  0x0A0A0A0A0A0A0A0A0A0A0A0A0A0A0A0A0A0A0A0A0A0A0A0A0A0A0A0A0A0A0A0A0A0A0A0A0A0A0A0A0A0A0A0A0A0A0A0A0A0A0A0B0C0D0E0F0F101010100F0F0E,
  0x0D0C0B0A0A0A0A0A0A0A0A0A0A0A0A0A0A0A0A0A0A0A0A0A0A0A0A0A0A0A0A0A0A0A0A0A0A0A0A0A0A0A0A0A0A0A0A0A0A0A0A0A0A0A0A0A0A0A0A0A0A0A0A0A,
  0x0A0A0A0A0A0A0A0A0A0A0A0A0A0A0A0A0A0A0A0A0A0A0A0A0A0A0A0A0A0A0A0A0A0A0A0A0A0A0A0A0A0A0A0A0A0A0A0A0A0A0A0A0A0A0A0A0A0A0A0A0A0A0A0A,
  0x0A0A0A0A0A0A0A0A0A0A0A0A0A0A0A0A0A0A0A0A0A0A0A0A0A0A0A0A0A0A0A0A0A0A0A0A0A0A0A0A0A0A0A0A0A0A0A0A0A0A0A0A0A0A0A0A0A0A0A0A0A0A0A0A,
  0x0A0A0A0A0A0A0A0A0A0A0A0A0A0A0A0A0A0A0A0A0A0A0A0A0A0A0A0A0A0A0A0A0A0A0C0D0F1112141517181A1B1C1D1E1E1F1F1F1F1F1E1D1C1B19171513100D,
  0x0A0A0A0A0A0A0A0A0A0A0A0A0A0A0A0A0A0A0A0A0A0A0A0A0A0A0A0A0A0A0A0A0A0A0A0A0A0A0A0A0A0A0A0A0A0A0E172029333C464F59626464646464646464,
  0x64646464646464646464646464646464646464646464646464646464646464646464635B544D463F38322C26211C17130F0B0A0A0A0A0A0A0A0A0A0A0A0A0A0A,
  0x0A0A0A0A0A0A0C0E1012141517181A1B1C1D1E1E1E1E1E1E1D1D1C1A1918161412100E0C0A0A0A0A0A0A0A0A0A0A0A0A0A0A0A0A0A0A0A0A0A0A0A0A0A0A0A0A,
  0x0A0A0A0A0A0A0A0A0A0B0E10121416181A1C1E1F212223242425252525252424232221201E1D1C1A1817151311100E0C0B0A0A0A0A0A0A0A0A0A0A0A0A0A0A0A,
  0x0A0A0A0A0A0A0A0A0A0A0A0A0A0B0C0D0E0E0F0F10101010100F0F0E0D0C0B0A0A0A0A0A0A0A0A0A0A0A0A0A0A0A0A0A0A0A0A0A0A0A0A0A0A0A0A0A0A0A0A0A,
  0x0A0A0A0A0A0A0A0A0A0A0A0A0A0A0A0A0A0A0A0A0A0A0A0A0A0A0A0A0A0A0A0A0A0A0A0A0A0A0A0A0A0A0A0A0A0A0A0A0A0A0A0A0A0A0A0A0A0A0A0A0A0A0A0A,
  0x0A0A0A0A0A0A0A0A0A0A0A0A0A0A0A0A0A0A0A0A0A0A0A0A0A0A0A0A0A0A0A0A0A0A0A0A0A0A0A0A0A0A0A0A0A0A0A0A0A0A0A0A0A0A0A0A0A0A0B0D0F121417,
  0x1A1C202326292D3034383B3F4246494D505356585B5D5F616263646464646362605E5B5955524E4945403A352F29221C150E0A0A0A0A0A0A0A0A0A0A0A0A0A0A,
  0x0A0A0A0A0A0A0A0A0A0A0A0A0A0A0A0A0A0A0A0A0A0A0A0A0A0A0A0A0A0A0C141B222A30373E44494F54585D6063646464646464646464646463605C5954504B,
  0x46413C36312B25201A140F0A0A0A0A0A0A0A0A0A0A0A0A0A0A0A0A0A0A0A0A0A0A0A0A0A0A0A0A0A0A0A0A0A0A0A0A0A0A0A0A0A0C0E10121314151617171818,
  0x181717161615141211100F0D0C0B0A0A0A0A0A0A0A0A0A0A0A0A0A0A0A0A0A0A0A0A0A0A0A0A0B0C0E1012141617191B1D1E2021232425262727282828282827]

/-- The sixteen pages of part 1 (R201), in index order. -/
def flickPart1 : List (List Nat) :=
  [flickPage4000, flickPage4400, flickPage4800, flickPage4C00, flickPage5000, flickPage5400, flickPage5800, flickPage5C00,
   flickPage6000, flickPage6400, flickPage6800, flickPage6C00, flickPage7000, flickPage7400, flickPage7800, flickPage7C00]

end Sys2Proof.Machine
end

