-- ==== Sys2Proof/Machine/FlickRom2.lean ====
section
/-! DEFINITION. The flicker ROM `FLICK`, entries 0x8000 to 0xBFFF: 43_flicker_rom_2.md rule R202, line for line.
A row is one line of the spec's listing, 64 entries of two hexadecimal digits read as one number, so that the row's first
entry is its most significant byte. A page is 16 rows, 1024 entries. `Machine/Flicker.lean` reads the table. -/

namespace Sys2Proof.Machine

/-- Entries 0x8000 to 0x83FF (R202). -/
def flickPage8000 : List Nat := [
  0x272625242321201E1C1A18161412100E0C0A0A0A0A0A0A0A0A0A0A0A0A0A0A0A0A0A0A0A0A0A0A0A0A0A0A0A0A0A0A0A0A0A0B0D0E1011131415161718181919,
  0x191919191918171615141311100E0C0A0A0A0A0A0A0A0A0A0A0A0A0A0A0A0A0A0A0A0A0A0A0A0A0A0A0A0A0A0A0A0A0A0A0A0A0A0A0A0A0A0A0A0A0A0A0A0A0A,
  0x0A0C0D0D0E0F101010111111111010100F0F0E0E0D0C0B0B0A0A0A0A0A0A0A0A0A0A0A0A0A0A0A0A0A0A0A0A0A0A0A0A0A0A0A0A0A0A0A0A0A0A0A0A0A0A0A0A,
  0x0A0A0A0A0A0A0A0A0A0A0A0A0A0A0A0A0A0A0A0A0A0A0A0A0A0A0B0D101215181C2024282C31363B40464B51575D636464646464646464646464646464646464,
  0x646464646464646464646464646464646464646464646464635A51483F362D241B120A0A0A0A0A0A0A0A0A0A0A0A0A0A0A0A0A0A0A0A0A0A0A0A0A0A0A0A0A0A,
  0x0A0A0A0A0A0A0A0A0A0A0A0A0A0A0A0A0D1012141618191919191918171513110E0B0A0A0A0A0A0A0A0A0A0A0A0A0A0A0A0A0A0A0A0A0A0A0A0A0A0A0A0A0A0A,
  0x0A0A0A0A0A0A0A0A0A0A0A0A0A0A0A0A0A0A0A0A0A0A0A0A0A0A0A0A0A0A0A0A0A0A0A0A0A0A0A0A0A0A0A0A0A0A0A0A0A0A0A0A0A0A0A0A0A0A0A0A0A0A0A0A,
  0x0A0A0A0A0A0A0A0A0A0A0A0A0A0A0A0A0A0C0D0E0F11121313141515151616151514141312100F0D0C0A0A0A0A0A0A0A0A0A0A0A0A0A0A0A0A0A0A0A0A0A0A0A,
  0x0A0A0A0A0A0A0A0A0A0A0A0A0A0A0A0A0A0A0A0A0A0A0A0A0A0A0A0A0A0A0A0A0A0C0D0F1011121314141515151515141413131211100F0E0D0B0A0A0A0A0A0A,
  0x0A0A0A0A0A0A0A0A0A0A0A0A0A0A0A0A0A0A0A0A0A0A0A0A0A0A0A0A0C0D0E0F101011121313141414151515151514141313121211100F0E0E0D0C0B0A0A0A0A,
  0x0A0A0A0A0A0A0A0A0A0A0A0A0A0A0A0A0A0A0A0A0A0A0A0A0A0A0A0A0A0A0A0A0A0A0A0A0A0A0A0A0A0A0A0A0A0A0A0A0A0A0A0A0A0A0A0A0A0A0A0A0A0A0A0A,
  0x0A0A0A0A0C1014191E23292F363D444B535A62646464646464646464646464646464646464646464646464646464646464646464646464646464646464646464,
  0x64646464646464645F554C423930271F160F0A0A0A0A0A0A0A0A0A0A0A0A0A0A0A0A0A0A0A0A0A0A0A0A0A0A0A0A0A0A0A0A0A0A0A0A0A0A0A0A0A0A0A0A0A0A,
  0x0A0A0A0A0A0A0A0A0A0A0A0A0A0A0A0A0A0A0A0A0A0A0A0A0A0A0A0A0A0A0A0A0A0A0A0A0A0A0A0A0A0A0A0A0A0A0A0A0A0A0A0A0A0A0A0A0A0A0A0A0A0A0A0A,
  0x0A0A0A0A0A0A0A0A0A0A0A0A0A0A0A0A0A0A0A0A0A0A0A0A0A0A0A0A0A0A0A0A0A0A0A0A0A0A0A0A0A0A0A0A0A0A0A0A0A0A0A0A0A0A0A0A0A0A0A0A0A0A0A0A,
  0x0A0A0A0A0A0A0A0A0A0A0A0A0A0A0A0A0A0A0A0A0A0A0A0A0A0A0A0A0A0A0A0A0A0A0A0A0A0A0A0A0A0A0A0A0A0A0A0A0A0A0A0A0A0A0A0A0A0A0A0A0A0A0A0A]

/-- Entries 0x8400 to 0x87FF (R202). -/
def flickPage8400 : List Nat := [
  0x0A0A0A0A0A0A0A0A0A0A0A0A0A0A0A0A0A0A0A0A0A0A0A0A0A0A0A0A0A0A0A0A0A0A0A0A0A0A0A0A0A0A0A0A0A0A0A0A0A0A0A0A0A0A0A0A0A0A0A0A0A0A0A0A,
  0x0A0A0A0A0A0B0B0C0C0C0D0D0D0D0D0C0C0C0B0B0A0A0A0A0A0A0A0A0A0A0A0A0A0A0A0A0A0A0A0A0A0A0A0A0A0A0A0A0A0A0A0A0A0A0A0A0A0A0A0A0A0A0A0A,
  0x0A0A0A0A0A0A0A0A0A0A0A0A0A0A0A0A0A0A0A0A0A0A0A0A0A0A0A0A0A0A0A0A0A0A0A0A0A0A0A0A0A0A0A0A0A0A0A0A0A0A0A11181F273038414A545D646464,
  0x64646464646464646464646464646464646464646464646464646464646464646464646464646464646464646464646464646460574F473F37302A231D18130E,
  0x0A0A0A0A0A0A0A0A0A0A0A0A0A0A0A0A0A0A0A0A0A0A0A0A0A0A0B0C0E0E0F101010100F0F0E0D0B0A0A0A0A0A0A0A0A0A0A0A0A0A0A0A0A0A0A0A0A0A0A0A0A,
  0x0A0A0A0A0A0A0A0A0A0A0A0A0A0A0A0A0A0A0A0A0A0A0A0A0A0A0A0A0A0A0A0A0A0A0A0A0A0A0A0B0C0D0E0F0F101010100F0F0E0D0C0B0A0A0A0A0A0A0A0A0A,
  0x0A0A0A0A0A0A0A0A0A0A0A0A0A0A0A0A0A0A0A0A0A0A0A0A0A0A0A0A0A0A0A0A0A0A0A0A0A0A0A0A0A0A0A0A0A0A0A0A0A0A0A0A0A0A0A0A0A0A0A0A0A0A0A0A,
  0x0A0A0A0A0A0A0A0A0A0A0A0A0A0A0A0A0A0A0A0A0A0A0A0A0A0A0A0A0A0A0A0A0A0A0A0A0A0A0A0A0A0A0A0A0A0A0A0A0A0A0A0A0A0A0A0A0A0A0A0A0A0A0A0A,
  0x0A0A0A0A0A0A0A0A0A0A0A0A0A0A0A0A0A0A0A0A0A0A0A0A0A0A0A0A0A0A0A0A0A0A0A0A0A0A0A0A0A0A0A0A0A0A0A0A0A0A0A0A0A0A0A0A0A0A0A0A0A0A0A0A,
  0x0A0A0A0A0A0A0A0A0A0A0A0A0A0A0A0A0A0A0A0A0A0A0C0D0F101214151718191B1C1D1E1E1F1F1F1F1F1E1E1C1B1A181613110E0B0A0A0A0A0A0A0A0A0A0A0A,
  0x0A0A0A0A0A0A0A0A0A0A0A0A0A0A0A0A0A0A0A0A0A0A0A0A0A0A0A0A0A0A0A0A0A0A0D151E27313A444D57606464646464646464646464646464646464646464,
  0x64646464646464646464646464646464646464646464645D554E474039332D27221D1814100C0A0A0A0A0A0A0A0A0A0A0A0A0A0A0A0A0A0A0A0A0C0D0F111315,
  0x17181A1B1C1D1D1E1E1E1E1E1D1D1C1B1918161413110E0C0A0A0A0A0A0A0A0A0A0A0A0A0A0A0A0A0A0A0A0A0A0A0A0A0A0A0A0A0A0A0A0A0A0A0A0A0A0B0D0F,
  0x121416181A1C1E1F202223242425252525252424232221201F1D1C1A1917151412100E0D0B0A0A0A0A0A0A0A0A0A0A0A0A0A0A0A0A0A0A0A0A0A0A0A0A0A0A0A,
  0x0A0B0C0D0D0E0F0F10101010100F0F0E0D0C0B0A0A0A0A0A0A0A0A0A0A0A0A0A0A0A0A0A0A0A0A0A0A0A0A0A0A0A0A0A0A0A0A0A0A0A0A0A0A0A0A0A0A0A0A0A,
  0x0A0A0A0A0A0A0A0A0A0A0A0A0A0A0A0A0A0A0A0A0A0A0A0A0A0A0A0A0A0A0A0A0A0A0A0A0A0A0A0A0A0A0A0A0A0A0A0A0A0A0A0A0A0A0A0A0A0A0A0A0A0A0A0A]

/-- Entries 0x8800 to 0x8BFF (R202). -/
def flickPage8800 : List Nat := [
  0x0A0A0A0A0A0A0A0A0A0A0A0A0A0A0A0A0A0A0A0A0A0A0A0A0A0A0A0A0A0A0A0A0A0A0A0A0A0A0A0A0A0A0A0A0A0A0B0D0F111416191C1F2225292C3033373B3E,
  0x4245494C4F5255585A5D5F606263646464646362605E5C5956534F4A46413B36302A231D160F0A0A0A0A0A0A0A0A0A0A0A0A0A0A0A0A0A0A0A0A0A0A0A0A0A0A,
  0x0A0A0A0A0A0A0A0A0A0A0A0A0A0A0A0A0A0A0B121A21282F363C43484E53585C6063646464646464646464646464615D5955514C47423D37322C26211B16100B,
  0x0A0A0A0A0A0A0A0A0A0A0A0A0A0A0A0A0A0A0A0A0A0A0A0A0A0A0A0A0A0A0A0A0A0A0A0A0A0A0A0A0C0E10111314151617171818181717161615141312100F0E,
  0x0C0B0A0A0A0A0A0A0A0A0A0A0A0A0A0A0A0A0A0A0A0A0A0A0A0A0A0C0E1011131517191B1C1E2021232425262727282828282827272625242321201E1D1B1917,
  0x1513110E0C0A0A0A0A0A0A0A0A0A0A0A0A0A0A0A0A0A0A0A0A0A0A0A0A0A0A0A0A0A0A0A0A0A0B0C0E0F11121415161718181919191919191918171615141311,
  0x100E0C0B0A0A0A0A0A0A0A0A0A0A0A0A0A0A0A0A0A0A0A0A0A0A0A0A0A0A0A0A0A0A0A0A0A0A0A0A0A0A0A0A0A0A0A0A0A0A0A0A0A0B0C0D0E0F0F1010111111,
  0x11111010100F0E0E0D0C0C0B0A0A0A0A0A0A0A0A0A0A0A0A0A0A0A0A0A0A0A0A0A0A0A0A0A0A0A0A0A0A0A0A0A0A0A0A0A0A0A0A0A0A0A0A0A0A0A0A0A0A0A0A,
  0x0A0A0A0A0A0A0A0A0A0A0A0A0A0A0B0D0F1215181B1F23272B30353A3F454A50565C626464646464646464646464646464646464646464646464646464646464,
  0x646464646464646464646464645C534A41382E251C130B0A0A0A0A0A0A0A0A0A0A0A0A0A0A0A0A0A0A0A0A0A0A0A0A0A0A0A0A0A0A0A0A0A0A0A0A0A0A0A0A0A,
  0x0A0A0A0A0C0F12141617181919191918171513110F0C0A0A0A0A0A0A0A0A0A0A0A0A0A0A0A0A0A0A0A0A0A0A0A0A0A0A0A0A0A0A0A0A0A0A0A0A0A0A0A0A0A0A,
  0x0A0A0A0A0A0A0A0A0A0A0A0A0A0A0A0A0A0A0A0A0A0A0A0A0A0A0A0A0A0A0A0A0A0A0A0A0A0A0A0A0A0A0A0A0A0A0A0A0A0A0A0A0A0A0A0A0A0A0A0A0A0A0A0A,
  0x0A0A0A0A0A0B0D0E0F10111213141515151616151514141312110F0E0C0A0A0A0A0A0A0A0A0A0A0A0A0A0A0A0A0A0A0A0A0A0A0A0A0A0A0A0A0A0A0A0A0A0A0A,
  0x0A0A0A0A0A0A0A0A0A0A0A0A0A0A0A0A0A0A0A0A0A0B0D0F1011121314141515151515141413131211100F0E0D0C0A0A0A0A0A0A0A0A0A0A0A0A0A0A0A0A0A0A,
  0x0A0A0A0A0A0A0A0A0A0A0A0A0A0A0A0A0B0C0D0E0F1011121313141414151515151514141413121211100F0F0E0D0C0B0A0A0A0A0A0A0A0A0A0A0A0A0A0A0A0A,
  0x0A0A0A0A0A0A0A0A0A0A0A0A0A0A0A0A0A0A0A0A0A0A0A0A0A0A0A0A0A0A0A0A0A0A0A0A0A0A0A0A0A0A0A0A0A0A0A0A0A0A0A0A0A0A0A0A0B0F13181D22282E]

/-- Entries 0x8C00 to 0x8FFF (R202). -/
def flickPage8C00 : List Nat := [
  0x353B424A515961646464646464646464646464646464646464646464646464646464646464646464646464646464646464646464646464646464646461574D44,
  0x3A31292018100A0A0A0A0A0A0A0A0A0A0A0A0A0A0A0A0A0A0A0A0A0A0A0A0A0A0A0A0A0A0A0A0A0A0A0A0A0A0A0A0A0A0A0A0A0A0A0A0A0A0A0A0A0A0A0A0A0A,
  0x0A0A0A0A0A0A0A0A0A0A0A0A0A0A0A0A0A0A0A0A0A0A0A0A0A0A0A0A0A0A0A0A0A0A0A0A0A0A0A0A0A0A0A0A0A0A0A0A0A0A0A0A0A0A0A0A0A0A0A0A0A0A0A0A,
  0x0A0A0A0A0A0A0A0A0A0A0A0A0A0A0A0A0A0A0A0A0A0A0A0A0A0A0A0A0A0A0A0A0A0A0A0A0A0A0A0A0A0A0A0A0A0A0A0A0A0A0A0A0A0A0A0A0A0A0A0A0A0A0A0A,
  0x0A0A0A0A0A0A0A0A0A0A0A0A0A0A0A0A0A0A0A0A0A0A0A0A0A0A0A0A0A0A0A0A0A0A0A0A0A0A0A0A0A0A0A0A0A0A0A0A0A0A0A0A0A0A0A0A0A0A0A0A0A0A0A0A,
  0x0A0A0A0A0A0A0A0A0A0A0A0A0A0A0A0A0A0A0A0A0A0A0A0A0A0A0A0A0A0A0A0A0A0A0A0A0A0A0A0A0A0A0A0A0A0A0A0A0A0A0A0A0A0A0A0A0A0B0B0C0C0C0D0D,
  0x0D0D0D0C0C0C0B0B0A0A0A0A0A0A0A0A0A0A0A0A0A0A0A0A0A0A0A0A0A0A0A0A0A0A0A0A0A0A0A0A0A0A0A0A0A0A0A0A0A0A0A0A0A0A0A0A0A0A0A0A0A0A0A0A,
  0x0A0A0A0A0A0A0A0A0A0A0A0A0A0A0A0A0A0A0A0A0A0A0A0A0A0A0A0A0A0A0A0A0A0A0A0A0A0A0A0F161E262E373F49525B646464646464646464646464646464,
  0x646464646464646464646464646464646464646464646464646464646464646464646464646464615950484039322B251F19140F0B0A0A0A0A0A0A0A0A0A0A0A,
  0x0A0A0A0A0A0A0A0A0A0A0A0A0A0A0B0C0D0E0F0F1010100F0F0E0D0B0A0A0A0A0A0A0A0A0A0A0A0A0A0A0A0A0A0A0A0A0A0A0A0A0A0A0A0A0A0A0A0A0A0A0A0A,
  0x0A0A0A0A0A0A0A0A0A0A0A0A0A0A0A0A0A0A0A0A0A0A0A0A0A0A0A0B0C0D0E0F0F101010100F0F0E0D0D0C0A0A0A0A0A0A0A0A0A0A0A0A0A0A0A0A0A0A0A0A0A,
  0x0A0A0A0A0A0A0A0A0A0A0A0A0A0A0A0A0A0A0A0A0A0A0A0A0A0A0A0A0A0A0A0A0A0A0A0A0A0A0A0A0A0A0A0A0A0A0A0A0A0A0A0A0A0A0A0A0A0A0A0A0A0A0A0A,
  0x0A0A0A0A0A0A0A0A0A0A0A0A0A0A0A0A0A0A0A0A0A0A0A0A0A0A0A0A0A0A0A0A0A0A0A0A0A0A0A0A0A0A0A0A0A0A0A0A0A0A0A0A0A0A0A0A0A0A0A0A0A0A0A0A,
  0x0A0A0A0A0A0A0A0A0A0A0A0A0A0A0A0A0A0A0A0A0A0A0A0A0A0A0A0A0A0A0A0A0A0A0A0A0A0A0A0A0A0A0A0A0A0A0A0A0A0A0A0A0A0A0A0A0A0A0A0A0A0A0A0A,
  0x0A0A0A0A0A0A0A0A0A0A0B0D0E101213151618191A1C1D1E1E1F1F1F1F1F1E1E1D1B1A181614110F0C0A0A0A0A0A0A0A0A0A0A0A0A0A0A0A0A0A0A0A0A0A0A0A,
  0x0A0A0A0A0A0A0A0A0A0A0A0A0A0A0A0A0A0A0A0A0A0A0B141D262F38424B555E6464646464646464646464646464646464646464646464646464646464646464]

/-- Entries 0x9000 to 0x93FF (R202). -/
def flickPage9000 : List Nat := [
  0x64646464646464646464645E574F48413B342E28231E1914100D0A0A0A0A0A0A0A0A0A0A0A0A0A0A0A0A0A0A0A0A0B0D0F1113151618191B1C1D1D1E1E1E1E1E,
  0x1E1D1C1B1A18171513110F0D0B0A0A0A0A0A0A0A0A0A0A0A0A0A0A0A0A0A0A0A0A0A0A0A0A0A0A0A0A0A0A0A0A0A0A0A0A0A0D0F111316181A1C1D1F20212323,
  0x2425252525252524232221201F1E1C1B1917161412100F0D0B0A0A0A0A0A0A0A0A0A0A0A0A0A0A0A0A0A0A0A0A0A0A0A0A0A0A0A0A0B0C0C0D0E0F0F0F101010,
  0x100F0F0E0E0D0B0A0A0A0A0A0A0A0A0A0A0A0A0A0A0A0A0A0A0A0A0A0A0A0A0A0A0A0A0A0A0A0A0A0A0A0A0A0A0A0A0A0A0A0A0A0A0A0A0A0A0A0A0A0A0A0A0A,
  0x0A0A0A0A0A0A0A0A0A0A0A0A0A0A0A0A0A0A0A0A0A0A0A0A0A0A0A0A0A0A0A0A0A0A0A0A0A0A0A0A0A0A0A0A0A0A0A0A0A0A0A0A0A0A0A0A0A0A0A0A0A0A0A0A,
  0x0A0A0A0A0A0A0A0A0A0A0A0A0A0A0A0A0A0A0A0A0A0A0A0A0A0A0A0A0A0A0A0A0A0A0A0C0E111316181B1E2125282B2F33363A3D4145484B4F5255575A5C5E60,
  0x6263646464646362615F5C5A57534F4B47423C37312B251E17110A0A0A0A0A0A0A0A0A0A0A0A0A0A0A0A0A0A0A0A0A0A0A0A0A0A0A0A0A0A0A0A0A0A0A0A0A0A,
  0x0A0A0A0A0A0A0A111820272E353B41474D52575B5F62646464646464646464646464615E5A56524D48433E38332D28221C17110C0A0A0A0A0A0A0A0A0A0A0A0A,
  0x0A0A0A0A0A0A0A0A0A0A0A0A0A0A0A0A0A0A0A0A0A0A0A0A0A0A0A0A0B0D0F111314151617171818181817171615141312110F0E0D0B0A0A0A0A0A0A0A0A0A0A,
  0x0A0A0A0A0A0A0A0A0A0A0A0A0A0A0A0C0D0F11131517191A1C1E1F21222425262627282828282828272625242322201F1D1B19171513110F0D0B0A0A0A0A0A0A,
  0x0A0A0A0A0A0A0A0A0A0A0A0A0A0A0A0A0A0A0A0A0A0A0A0A0A0A0A0C0E0F11121315161717181919191919191918171716141312100F0D0B0A0A0A0A0A0A0A0A,
  0x0A0A0A0A0A0A0A0A0A0A0A0A0A0A0A0A0A0A0A0A0A0A0A0A0A0A0A0A0A0A0A0A0A0A0A0A0A0A0A0A0A0B0C0D0E0F0F101011111111111010100F0F0E0D0C0C0B,
  0x0A0A0A0A0A0A0A0A0A0A0A0A0A0A0A0A0A0A0A0A0A0A0A0A0A0A0A0A0A0A0A0A0A0A0A0A0A0A0A0A0A0A0A0A0A0A0A0A0A0A0A0A0A0A0A0A0A0A0A0A0A0A0A0A,
  0x0A0A0A0C0F1114171B1E22262A2F34393E44494F555B616464646464646464646464646464646464646464646464646464646464646464646464646464646464,
  0x645D554C423930271E150C0A0A0A0A0A0A0A0A0A0A0A0A0A0A0A0A0A0A0A0A0A0A0A0A0A0A0A0A0A0A0A0A0A0A0A0A0A0A0A0A0A0A0A0A0A0C0F111415171819,
  0x19191918171614120F0C0A0A0A0A0A0A0A0A0A0A0A0A0A0A0A0A0A0A0A0A0A0A0A0A0A0A0A0A0A0A0A0A0A0A0A0A0A0A0A0A0A0A0A0A0A0A0A0A0A0A0A0A0A0A]

/-- Entries 0x9400 to 0x97FF (R202). -/
def flickPage9400 : List Nat := [
  0x0A0A0A0A0A0A0A0A0A0A0A0A0A0A0A0A0A0A0A0A0A0A0A0A0A0A0A0A0A0A0A0A0A0A0A0A0A0A0A0A0A0A0A0A0A0A0A0A0A0A0A0A0A0A0A0A0A0B0C0E0F101112,
  0x1314151515161615151514131211100E0C0B0A0A0A0A0A0A0A0A0A0A0A0A0A0A0A0A0A0A0A0A0A0A0A0A0A0A0A0A0A0A0A0A0A0A0A0A0A0A0A0A0A0A0A0A0A0A,
  0x0A0A0A0A0A0A0A0A0A0B0D0E1011121314141515151515151414131211100F0E0D0C0B0A0A0A0A0A0A0A0A0A0A0A0A0A0A0A0A0A0A0A0A0A0A0A0A0A0A0A0A0A,
  0x0A0A0A0A0B0C0D0E0F101112121314141415151515151414141313121110100F0E0D0C0B0A0A0A0A0A0A0A0A0A0A0A0A0A0A0A0A0A0A0A0A0A0A0A0A0A0A0A0A,
  0x0A0A0A0A0A0A0A0A0A0A0A0A0A0A0A0A0A0A0A0A0A0A0A0A0A0A0A0A0A0A0A0A0A0A0A0A0A0A0A0A0A0A0A0A0A0E12171C21272D333A414850575F6464646464,
  0x64646464646464646464646464646464646464646464646464646464646464646464646464646464646464646464646463594F463C332A221A120A0A0A0A0A0A,
  0x0A0A0A0A0A0A0A0A0A0A0A0A0A0A0A0A0A0A0A0A0A0A0A0A0A0A0A0A0A0A0A0A0A0A0A0A0A0A0A0A0A0A0A0A0A0A0A0A0A0A0A0A0A0A0A0A0A0A0A0A0A0A0A0A,
  0x0A0A0A0A0A0A0A0A0A0A0A0A0A0A0A0A0A0A0A0A0A0A0A0A0A0A0A0A0A0A0A0A0A0A0A0A0A0A0A0A0A0A0A0A0A0A0A0A0A0A0A0A0A0A0A0A0A0A0A0A0A0A0A0A,
  0x0A0A0A0A0A0A0A0A0A0A0A0A0A0A0A0A0A0A0A0A0A0A0A0A0A0A0A0A0A0A0A0A0A0A0A0A0A0A0A0A0A0A0A0A0A0A0A0A0A0A0A0A0A0A0A0A0A0A0A0A0A0A0A0A,
  0x0A0A0A0A0A0A0A0A0A0A0A0A0A0A0A0A0A0A0A0A0A0A0A0A0A0A0A0A0A0A0A0A0A0A0A0A0A0A0A0A0A0A0A0A0A0A0A0A0A0A0A0A0A0A0A0A0A0A0A0A0A0A0A0A,
  0x0A0A0A0A0A0A0A0A0A0A0A0A0A0A0A0A0A0A0A0A0A0A0A0A0A0A0A0A0A0A0A0A0A0A0A0A0A0A0A0A0A0A0A0A0A0B0B0C0C0C0D0D0D0D0D0C0C0C0B0B0A0A0A0A,
  0x0A0A0A0A0A0A0A0A0A0A0A0A0A0A0A0A0A0A0A0A0A0A0A0A0A0A0A0A0A0A0A0A0A0A0A0A0A0A0A0A0A0A0A0A0A0A0A0A0A0A0A0A0A0A0A0A0A0A0A0A0A0A0A0A,
  0x0A0A0A0A0A0A0A0A0A0A0A0A0A0A0A0A0A0A0A0A0A0A0A0A0A0A0A0E151C242C353E47505A636464646464646464646464646464646464646464646464646464,
  0x646464646464646464646464646464646464646464646464646464635A524A423A332C26201A15100C0A0A0A0A0A0A0A0A0A0A0A0A0A0A0A0A0A0A0A0A0A0A0A,
  0x0A0A0B0C0D0E0F0F1010100F0F0E0D0C0A0A0A0A0A0A0A0A0A0A0A0A0A0A0A0A0A0A0A0A0A0A0A0A0A0A0A0A0A0A0A0A0A0A0A0A0A0A0A0A0A0A0A0A0A0A0A0A,
  0x0A0A0A0A0A0A0A0A0A0A0A0A0A0A0A0A0C0D0E0F0F101010100F0F0E0E0D0C0B0A0A0A0A0A0A0A0A0A0A0A0A0A0A0A0A0A0A0A0A0A0A0A0A0A0A0A0A0A0A0A0A]

/-- Entries 0x9800 to 0x9BFF (R202). -/
def flickPage9800 : List Nat := [
  0x0A0A0A0A0A0A0A0A0A0A0A0A0A0A0A0A0A0A0A0A0A0A0A0A0A0A0A0A0A0A0A0A0A0A0A0A0A0A0A0A0A0A0A0A0A0A0A0A0A0A0A0A0A0A0A0A0A0A0A0A0A0A0A0A,
  0x0A0A0A0A0A0A0A0A0A0A0A0A0A0A0A0A0A0A0A0A0A0A0A0A0A0A0A0A0A0A0A0A0A0A0A0A0A0A0A0A0A0A0A0A0A0A0A0A0A0A0A0A0A0A0A0A0A0A0A0A0A0A0A0A,
  0x0A0A0A0A0A0A0A0A0A0A0A0A0A0A0A0A0A0A0A0A0A0A0A0A0A0A0A0A0A0A0A0A0A0A0A0A0A0A0A0A0A0A0A0A0A0A0A0A0A0A0A0A0A0A0A0A0A0A0A0A0A0A0B0C,
  0x0E101113141618191A1B1C1D1E1F1F1F1F1F1F1E1D1C1A191714120F0C0A0A0A0A0A0A0A0A0A0A0A0A0A0A0A0A0A0A0A0A0A0A0A0A0A0A0A0A0A0A0A0A0A0A0A,
  0x0A0A0A0A0A0A0A0A0A0A0A121B242D374049535C646464646464646464646464646464646464646464646464646464646464646464646464646464646464645F,
  0x58514A433C362F29241F1A15110D0A0A0A0A0A0A0A0A0A0A0A0A0A0A0A0A0A0A0A0A0B0D0F1112141618191A1B1C1D1E1E1E1E1E1E1D1C1B1A18171513110F0D,
  0x0B0A0A0A0A0A0A0A0A0A0A0A0A0A0A0A0A0A0A0A0A0A0A0A0A0A0A0A0A0A0A0A0A0A0A0A0A0A0C0E11131517191B1D1E20212223242525252525252423232220,
  0x1F1E1C1B1918161412110F0D0C0A0A0A0A0A0A0A0A0A0A0A0A0A0A0A0A0A0A0A0A0A0A0A0A0A0A0A0A0A0B0C0D0E0E0F0F10101010100F0E0E0D0C0A0A0A0A0A,
  0x0A0A0A0A0A0A0A0A0A0A0A0A0A0A0A0A0A0A0A0A0A0A0A0A0A0A0A0A0A0A0A0A0A0A0A0A0A0A0A0A0A0A0A0A0A0A0A0A0A0A0A0A0A0A0A0A0A0A0A0A0A0A0A0A,
  0x0A0A0A0A0A0A0A0A0A0A0A0A0A0A0A0A0A0A0A0A0A0A0A0A0A0A0A0A0A0A0A0A0A0A0A0A0A0A0A0A0A0A0A0A0A0A0A0A0A0A0A0A0A0A0A0A0A0A0A0A0A0A0A0A,
  0x0A0A0A0A0A0A0A0A0A0A0A0A0A0A0A0A0A0A0A0A0A0A0A0C0E101315181B1E2124272B2E3235393D4044474B4E5154575A5C5E606163636464646362615F5D5A,
  0x5754504C47433D38322C261F19120B0A0A0A0A0A0A0A0A0A0A0A0A0A0A0A0A0A0A0A0A0A0A0A0A0A0A0A0A0A0A0A0A0A0A0A0A0A0A0A0A0A0A0A0A0F171E252C,
  0x333A40464C51565A5E62646464646464646464646464625F5B57534E49443F39342E29231D18120D0A0A0A0A0A0A0A0A0A0A0A0A0A0A0A0A0A0A0A0A0A0A0A0A,
  0x0A0A0A0A0A0A0A0A0A0A0A0A0A0A0A0A0B0D0F111214151617171818181817171615141312110F0E0D0B0A0A0A0A0A0A0A0A0A0A0A0A0A0A0A0A0A0A0A0A0A0A,
  0x0A0A0A0B0D0F11131416181A1C1D1F21222324252627282828282828272626252322211F1D1B1A181613110F0D0B0A0A0A0A0A0A0A0A0A0A0A0A0A0A0A0A0A0A,
  0x0A0A0A0A0A0A0A0A0A0A0A0A0A0A0A0C0D0F10121314151617181919191919191918181716151312100F0D0B0A0A0A0A0A0A0A0A0A0A0A0A0A0A0A0A0A0A0A0A]

/-- Entries 0x9C00 to 0x9FFF (R202). -/
def flickPage9C00 : List Nat := [
  0x0A0A0A0A0A0A0A0A0A0A0A0A0A0A0A0A0A0A0A0A0A0A0A0A0A0A0A0A0A0B0C0D0E0F0F101010111111111010100F0F0E0D0D0C0B0A0A0A0A0A0A0A0A0A0A0A0A,
  0x0A0A0A0A0A0A0A0A0A0A0A0A0A0A0A0A0A0A0A0A0A0A0A0A0A0A0A0A0A0A0A0A0A0A0A0A0A0A0A0A0A0A0A0A0A0A0A0A0A0A0A0A0A0A0A0C0E1113171A1D2125,
  0x2A2E33383D43484E545A606464646464646464646464646464646464646464646464646464646464646464646464646464646464645F564D443B322920170E0A,
  0x0A0A0A0A0A0A0A0A0A0A0A0A0A0A0A0A0A0A0A0A0A0A0A0A0A0A0A0A0A0A0A0A0A0A0A0A0A0A0A0A0A0A0A0A0B0E1113151718191919191817161412100D0A0A,
  0x0A0A0A0A0A0A0A0A0A0A0A0A0A0A0A0A0A0A0A0A0A0A0A0A0A0A0A0A0A0A0A0A0A0A0A0A0A0A0A0A0A0A0A0A0A0A0A0A0A0A0A0A0A0A0A0A0A0A0A0A0A0A0A0A,
  0x0A0A0A0A0A0A0A0A0A0A0A0A0A0A0A0A0A0A0A0A0A0A0A0A0A0A0A0A0A0A0A0A0A0A0A0A0A0A0A0A0A0A0A0A0A0B0C0D0F101112131414151516161515151413,
  0x1211100E0D0B0A0A0A0A0A0A0A0A0A0A0A0A0A0A0A0A0A0A0A0A0A0A0A0A0A0A0A0A0A0A0A0A0A0A0A0A0A0A0A0A0A0A0A0A0A0A0A0A0A0A0A0A0A0A0A0B0C0E,
  0x0F11121314141515151515151414131211100F0E0D0C0B0A0A0A0A0A0A0A0A0A0A0A0A0A0A0A0A0A0A0A0A0A0A0A0A0A0A0A0A0A0A0A0A0A0B0C0D0E0F101112,
  0x121313141415151515151414141313121111100F0E0D0C0B0A0A0A0A0A0A0A0A0A0A0A0A0A0A0A0A0A0A0A0A0A0A0A0A0A0A0A0A0A0A0A0A0A0A0A0A0A0A0A0A,
  0x0A0A0A0A0A0A0A0A0A0A0A0A0A0A0A0A0A0A0A0A0A0A0A0A0A0A0A0A0A0A0A0A0A0D12161B20262C323940474E565E6464646464646464646464646464646464,
  0x646464646464646464646464646464646464646464646464646464646464646464646464645B51483E352C231B130C0A0A0A0A0A0A0A0A0A0A0A0A0A0A0A0A0A,
  0x0A0A0A0A0A0A0A0A0A0A0A0A0A0A0A0A0A0A0A0A0A0A0A0A0A0A0A0A0A0A0A0A0A0A0A0A0A0A0A0A0A0A0A0A0A0A0A0A0A0A0A0A0A0A0A0A0A0A0A0A0A0A0A0A,
  0x0A0A0A0A0A0A0A0A0A0A0A0A0A0A0A0A0A0A0A0A0A0A0A0A0A0A0A0A0A0A0A0A0A0A0A0A0A0A0A0A0A0A0A0A0A0A0A0A0A0A0A0A0A0A0A0A0A0A0A0A0A0A0A0A,
  0x0A0A0A0A0A0A0A0A0A0A0A0A0A0A0A0A0A0A0A0A0A0A0A0A0A0A0A0A0A0A0A0A0A0A0A0A0A0A0A0A0A0A0A0A0A0A0A0A0A0A0A0A0A0A0A0A0A0A0A0A0A0A0A0A,
  0x0A0A0A0A0A0A0A0A0A0A0A0A0A0A0A0A0A0A0A0A0A0A0A0A0A0A0A0A0A0A0A0A0A0A0A0A0A0A0A0A0A0A0A0A0A0A0A0A0A0A0A0A0A0A0A0A0A0A0A0A0A0A0A0A,
  0x0A0A0A0A0A0A0A0A0A0A0A0A0A0A0A0A0A0A0A0A0A0A0A0A0A0A0A0A0A0A0A0A0A0B0B0C0C0C0D0D0D0D0D0C0C0C0C0B0B0A0A0A0A0A0A0A0A0A0A0A0A0A0A0A]

/-- Entries 0xA000 to 0xA3FF (R202). -/
def flickPageA000 : List Nat := [
  0x0A0A0A0A0A0A0A0A0A0A0A0A0A0A0A0A0A0A0A0A0A0A0A0A0A0A0A0A0A0A0A0A0A0A0A0A0A0A0A0A0A0A0A0A0A0A0A0A0A0A0A0A0A0A0A0A0A0A0A0A0A0A0A0A,
  0x0A0A0A0A0A0A0A0A0A0A0A0A0A0A0A0C131B232B333C454E58616464646464646464646464646464646464646464646464646464646464646464646464646464,
  0x646464646464646464646464646464645C544B433C352E27211B16110D0A0A0A0A0A0A0A0A0A0A0A0A0A0A0A0A0A0A0A0A0A0A0A0A0A0B0C0D0E0F0F1010100F,
  0x0F0E0D0C0B0A0A0A0A0A0A0A0A0A0A0A0A0A0A0A0A0A0A0A0A0A0A0A0A0A0A0A0A0A0A0A0A0A0A0A0A0A0A0A0A0A0A0A0A0A0A0A0A0A0A0A0A0A0A0A0A0A0A0A,
  0x0A0A0A0A0B0D0E0E0F101010100F0F0E0E0D0C0B0A0A0A0A0A0A0A0A0A0A0A0A0A0A0A0A0A0A0A0A0A0A0A0A0A0A0A0A0A0A0A0A0A0A0A0A0A0A0A0A0A0A0A0A,
  0x0A0A0A0A0A0A0A0A0A0A0A0A0A0A0A0A0A0A0A0A0A0A0A0A0A0A0A0A0A0A0A0A0A0A0A0A0A0A0A0A0A0A0A0A0A0A0A0A0A0A0A0A0A0A0A0A0A0A0A0A0A0A0A0A,
  0x0A0A0A0A0A0A0A0A0A0A0A0A0A0A0A0A0A0A0A0A0A0A0A0A0A0A0A0A0A0A0A0A0A0A0A0A0A0A0A0A0A0A0A0A0A0A0A0A0A0A0A0A0A0A0A0A0A0A0A0A0A0A0A0A,
  0x0A0A0A0A0A0A0A0A0A0A0A0A0A0A0A0A0A0A0A0A0A0A0A0A0A0A0A0A0A0A0A0A0A0A0A0A0A0A0A0A0A0A0A0A0A0A0A0A0A0A0B0C0E0F1113141617191A1B1C1D,
  0x1E1F1F1F1F1F1F1E1D1C1B19171512100D0A0A0A0A0A0A0A0A0A0A0A0A0A0A0A0A0A0A0A0A0A0A0A0A0A0A0A0A0A0A0A0A0A0A0A0A0A0A0A0A0A0A0A0A0A0A10,
  0x19222B353E48515B64646464646464646464646464646464646464646464646464646464646464646464646464646464646464615A524B443D37312B25201B16,
  0x120E0B0A0A0A0A0A0A0A0A0A0A0A0A0A0A0A0A0A0A0A0A0C0E1012141617191A1B1C1D1E1E1E1E1E1E1D1C1B1A1917151412100E0B0A0A0A0A0A0A0A0A0A0A0A,
  0x0A0A0A0A0A0A0A0A0A0A0A0A0A0A0A0A0A0A0A0A0A0A0A0A0A0A0C0E10131517191B1D1E202122232424252525252524242322211F1E1D1B1A18161513110F0E,
  0x0C0A0A0A0A0A0A0A0A0A0A0A0A0A0A0A0A0A0A0A0A0A0A0A0A0A0A0A0A0A0B0C0D0E0E0F0F10101010100F0F0E0D0C0B0A0A0A0A0A0A0A0A0A0A0A0A0A0A0A0A,
  0x0A0A0A0A0A0A0A0A0A0A0A0A0A0A0A0A0A0A0A0A0A0A0A0A0A0A0A0A0A0A0A0A0A0A0A0A0A0A0A0A0A0A0A0A0A0A0A0A0A0A0A0A0A0A0A0A0A0A0A0A0A0A0A0A,
  0x0A0A0A0A0A0A0A0A0A0A0A0A0A0A0A0A0A0A0A0A0A0A0A0A0A0A0A0A0A0A0A0A0A0A0A0A0A0A0A0A0A0A0A0A0A0A0A0A0A0A0A0A0A0A0A0A0A0A0A0A0A0A0A0A,
  0x0A0A0A0A0A0A0A0A0A0A0A0C0E101215171A1D2023272A2E3135383C4043474A4D515456595B5E5F616263646464636361605D5B5855514D48443E39332D2721]

/-- Entries 0xA400 to 0xA7FF (R202). -/
def flickPageA400 : List Nat := [
  0x1A130C0A0A0A0A0A0A0A0A0A0A0A0A0A0A0A0A0A0A0A0A0A0A0A0A0A0A0A0A0A0A0A0A0A0A0A0A0A0A0A0A0A0A0A0A0E151D242B32393F454B5055595D616464,
  0x64646464646464646464625F5C58544F4A45403B352F2A241E19130E0A0A0A0A0A0A0A0A0A0A0A0A0A0A0A0A0A0A0A0A0A0A0A0A0A0A0A0A0A0A0A0A0A0A0A0A,
  0x0A0A0A0A0A0D0F10121315161617181818181717161514131211100E0D0C0A0A0A0A0A0A0A0A0A0A0A0A0A0A0A0A0A0A0A0A0A0A0A0A0A0B0D0F10121416181A,
  0x1B1D1F20222324252627272828282828272726252422211F1E1C1A18161412100E0B0A0A0A0A0A0A0A0A0A0A0A0A0A0A0A0A0A0A0A0A0A0A0A0A0A0A0A0A0A0A,
  0x0A0A0A0B0D0F10111314151617181919191919191918181716151412110F0D0C0A0A0A0A0A0A0A0A0A0A0A0A0A0A0A0A0A0A0A0A0A0A0A0A0A0A0A0A0A0A0A0A,
  0x0A0A0A0A0A0A0A0A0A0A0A0A0A0A0A0A0A0B0C0D0E0E0F101010111111111010100F0F0E0D0D0C0B0A0A0A0A0A0A0A0A0A0A0A0A0A0A0A0A0A0A0A0A0A0A0A0A,
  0x0A0A0A0A0A0A0A0A0A0A0A0A0A0A0A0A0A0A0A0A0A0A0A0A0A0A0A0A0A0A0A0A0A0A0A0A0A0A0A0A0A0A0A0B0E101316191D2024292D32373C42474D53595F64,
  0x646464646464646464646464646464646464646464646464646464646464646464646464646464646461584F463D342B2219100A0A0A0A0A0A0A0A0A0A0A0A0A,
  0x0A0A0A0A0A0A0A0A0A0A0A0A0A0A0A0A0A0A0A0A0A0A0A0A0A0A0A0A0A0A0A0A0A0D1013151618191919191918161512100D0A0A0A0A0A0A0A0A0A0A0A0A0A0A,
  0x0A0A0A0A0A0A0A0A0A0A0A0A0A0A0A0A0A0A0A0A0A0A0A0A0A0A0A0A0A0A0A0A0A0A0A0A0A0A0A0A0A0A0A0A0A0A0A0A0A0A0A0A0A0A0A0A0A0A0A0A0A0A0A0A,
  0x0A0A0A0A0A0A0A0A0A0A0A0A0A0A0A0A0A0A0A0A0A0A0A0A0A0A0A0A0A0A0A0A0A0A0C0D0E1011121314141515151615151514131211100F0D0B0A0A0A0A0A0A,
  0x0A0A0A0A0A0A0A0A0A0A0A0A0A0A0A0A0A0A0A0A0A0A0A0A0A0A0A0A0A0A0A0A0A0A0A0A0A0A0A0A0A0A0A0A0A0A0A0A0A0A0C0E0F1012131314151515151515,
  0x141413121211100F0D0C0B0A0A0A0A0A0A0A0A0A0A0A0A0A0A0A0A0A0A0A0A0A0A0A0A0A0A0A0A0A0A0A0A0A0B0C0D0E0F101111121313141415151515151514,
  0x141313121211100F0E0D0C0B0B0A0A0A0A0A0A0A0A0A0A0A0A0A0A0A0A0A0A0A0A0A0A0A0A0A0A0A0A0A0A0A0A0A0A0A0A0A0A0A0A0A0A0A0A0A0A0A0A0A0A0A,
  0x0A0A0A0A0A0A0A0A0A0A0A0A0A0A0A0A0A0A0A0A0A0D11151A1F252B31373E454D545C6464646464646464646464646464646464646464646464646464646464,
  0x646464646464646464646464646464646464646464646464645D534940372E251D150D0A0A0A0A0A0A0A0A0A0A0A0A0A0A0A0A0A0A0A0A0A0A0A0A0A0A0A0A0A]

/-- Entries 0xA800 to 0xABFF (R202). -/
def flickPageA800 : List Nat := [
  0x0A0A0A0A0A0A0A0A0A0A0A0A0A0A0A0A0A0A0A0A0A0A0A0A0A0A0A0A0A0A0A0A0A0A0A0A0A0A0A0A0A0A0A0A0A0A0A0A0A0A0A0A0A0A0A0A0A0A0A0A0A0A0A0A,
  0x0A0A0A0A0A0A0A0A0A0A0A0A0A0A0A0A0A0A0A0A0A0A0A0A0A0A0A0A0A0A0A0A0A0A0A0A0A0A0A0A0A0A0A0A0A0A0A0A0A0A0A0A0A0A0A0A0A0A0A0A0A0A0A0A,
  0x0A0A0A0A0A0A0A0A0A0A0A0A0A0A0A0A0A0A0A0A0A0A0A0A0A0A0A0A0A0A0A0A0A0A0A0A0A0A0A0A0A0A0A0A0A0A0A0A0A0A0A0A0A0A0A0A0A0A0A0A0A0A0A0A,
  0x0A0A0A0A0A0A0A0A0A0A0A0A0A0A0A0A0A0A0A0A0A0A0A0A0A0A0A0A0A0A0A0A0A0A0A0A0A0A0A0A0A0A0A0A0A0A0A0A0A0A0A0A0A0A0A0A0A0A0A0A0A0A0A0A,
  0x0A0A0A0A0A0A0A0A0A0A0A0A0A0A0A0A0A0A0A0A0A0B0B0C0C0C0C0D0D0D0D0D0C0C0C0B0B0A0A0A0A0A0A0A0A0A0A0A0A0A0A0A0A0A0A0A0A0A0A0A0A0A0A0A,
  0x0A0A0A0A0A0A0A0A0A0A0A0A0A0A0A0A0A0A0A0A0A0A0A0A0A0A0A0A0A0A0A0A0A0A0A0A0A0A0A0A0A0A0A0A0A0A0A0A0A0A0A0A0A0A0A0A0A0A0A0A0A0A0A0A,
  0x0A0A0A0B12192129323A434C565F6464646464646464646464646464646464646464646464646464646464646464646464646464646464646464646464646464,
  0x646464645E554D453D362F28221C17120D0A0A0A0A0A0A0A0A0A0A0A0A0A0A0A0A0A0A0A0A0A0A0A0A0A0A0C0D0E0F0F101010100F0E0D0C0B0A0A0A0A0A0A0A,
  0x0A0A0A0A0A0A0A0A0A0A0A0A0A0A0A0A0A0A0A0A0A0A0A0A0A0A0A0A0A0A0A0A0A0A0A0A0A0A0A0A0A0A0A0A0A0A0A0A0A0A0A0A0A0A0A0A0B0C0D0E0F0F1010,
  0x100F0F0F0E0D0C0B0A0A0A0A0A0A0A0A0A0A0A0A0A0A0A0A0A0A0A0A0A0A0A0A0A0A0A0A0A0A0A0A0A0A0A0A0A0A0A0A0A0A0A0A0A0A0A0A0A0A0A0A0A0A0A0A,
  0x0A0A0A0A0A0A0A0A0A0A0A0A0A0A0A0A0A0A0A0A0A0A0A0A0A0A0A0A0A0A0A0A0A0A0A0A0A0A0A0A0A0A0A0A0A0A0A0A0A0A0A0A0A0A0A0A0A0A0A0A0A0A0A0A,
  0x0A0A0A0A0A0A0A0A0A0A0A0A0A0A0A0A0A0A0A0A0A0A0A0A0A0A0A0A0A0A0A0A0A0A0A0A0A0A0A0A0A0A0A0A0A0A0A0A0A0A0A0A0A0A0A0A0A0A0A0A0A0A0A0A,
  0x0A0A0A0A0A0A0A0A0A0A0A0A0A0A0A0A0A0A0A0A0A0A0A0A0A0A0A0A0A0A0A0A0A0A0A0A0A0A0A0C0D0F1112141517181A1B1C1D1E1F1F1F1F1F1F1E1D1C1B19,
  0x171513100D0A0A0A0A0A0A0A0A0A0A0A0A0A0A0A0A0A0A0A0A0A0A0A0A0A0A0A0A0A0A0A0A0A0A0A0A0A0A0A0A0A0A0A0A0A0A0E17202A333C464F5962646464,
  0x646464646464646464646464646464646464646464646464646464646464646464646464646464625B544C453F38322C26211C17130F0B0A0A0A0A0A0A0A0A0A,
  0x0A0A0A0A0A0A0A0A0A0A0A0C0E1012141517181A1B1C1D1E1E1E1E1E1E1D1C1C1A1917161412100E0C0A0A0A0A0A0A0A0A0A0A0A0A0A0A0A0A0A0A0A0A0A0A0A]

/-- Entries 0xAC00 to 0xAFFF (R202). -/
def flickPageAC00 : List Nat := [
  0x0A0A0A0A0A0A0A0A0A0A0A0A0A0A0B0E10121417191A1C1E1F212223242425252525252424232221201E1D1B1A1817151311100E0C0B0A0A0A0A0A0A0A0A0A0A,
  0x0A0A0A0A0A0A0A0A0A0A0A0A0A0A0A0A0A0A0B0C0D0E0E0F0F10101010100F0F0E0D0C0B0A0A0A0A0A0A0A0A0A0A0A0A0A0A0A0A0A0A0A0A0A0A0A0A0A0A0A0A,
  0x0A0A0A0A0A0A0A0A0A0A0A0A0A0A0A0A0A0A0A0A0A0A0A0A0A0A0A0A0A0A0A0A0A0A0A0A0A0A0A0A0A0A0A0A0A0A0A0A0A0A0A0A0A0A0A0A0A0A0A0A0A0A0A0A,
  0x0A0A0A0A0A0A0A0A0A0A0A0A0A0A0A0A0A0A0A0A0A0A0A0A0A0A0A0A0A0A0A0A0A0A0A0A0A0A0A0A0A0A0A0A0A0A0A0A0A0A0A0A0A0A0A0A0A0A0A0A0A0A0A0B,
  0x0D0F1214171A1D202326292D3034383B3F4346494D505356595B5D5F616263646464646362605E5B5955524E49453F3A342F28221B150E0A0A0A0A0A0A0A0A0A,
  0x0A0A0A0A0A0A0A0A0A0A0A0A0A0A0A0A0A0A0A0A0A0A0A0A0A0A0A0A0A0A0A0A0A0A0A0D141B232A31373E444A4F54595D606464646464646464646464646360,
  0x5C5954504B46413C36312B25201A140F0A0A0A0A0A0A0A0A0A0A0A0A0A0A0A0A0A0A0A0A0A0A0A0A0A0A0A0A0A0A0A0A0A0A0A0A0A0A0A0A0A0C0E1012131415,
  0x1617171818181717161515141211100F0D0C0B0A0A0A0A0A0A0A0A0A0A0A0A0A0A0A0A0A0A0A0A0A0A0A0A0B0C0E1012141617191B1D1E202123242526272728,
  0x2828282827272625242321201E1C1A18161412100E0C0A0A0A0A0A0A0A0A0A0A0A0A0A0A0A0A0A0A0A0A0A0A0A0A0A0A0A0A0A0A0A0A0A0B0D0E101113141516,
  0x17181819191919191918181716151413110F0E0C0A0A0A0A0A0A0A0A0A0A0A0A0A0A0A0A0A0A0A0A0A0A0A0A0A0A0A0A0A0A0A0A0A0A0A0A0A0A0A0A0A0A0A0A,
  0x0A0A0A0A0A0B0C0D0E0E0F101010111111111010100F0F0E0E0D0C0B0B0A0A0A0A0A0A0A0A0A0A0A0A0A0A0A0A0A0A0A0A0A0A0A0A0A0A0A0A0A0A0A0A0A0A0A,
  0x0A0A0A0A0A0A0A0A0A0A0A0A0A0A0A0A0A0A0A0A0A0A0A0A0A0A0A0A0A0A0A0B0D101215191C2024282C31363B40464C51575D64646464646464646464646464,
  0x6464646464646464646464646464646464646464646464646464646464635A51483F362C231A110A0A0A0A0A0A0A0A0A0A0A0A0A0A0A0A0A0A0A0A0A0A0A0A0A,
  0x0A0A0A0A0A0A0A0A0A0A0A0A0A0A0A0A0A0A0A0A0A0D1012141618191919191918171513110E0B0A0A0A0A0A0A0A0A0A0A0A0A0A0A0A0A0A0A0A0A0A0A0A0A0A,
  0x0A0A0A0A0A0A0A0A0A0A0A0A0A0A0A0A0A0A0A0A0A0A0A0A0A0A0A0A0A0A0A0A0A0A0A0A0A0A0A0A0A0A0A0A0A0A0A0A0A0A0A0A0A0A0A0A0A0A0A0A0A0A0A0A,
  0x0A0A0A0A0A0A0A0A0A0A0A0A0A0A0A0A0A0A0A0A0A0A0C0D0E0F11121313141515151616151514141312100F0D0C0A0A0A0A0A0A0A0A0A0A0A0A0A0A0A0A0A0A]

/-- Entries 0xB000 to 0xB3FF (R202). -/
def flickPageB000 : List Nat := [
  0x0A0A0A0A0A0A0A0A0A0A0A0A0A0A0A0A0A0A0A0A0A0A0A0A0A0A0A0A0A0A0A0A0A0A0A0A0A0A0C0D0F1011121314141515151515141413131211100F0E0D0B0A,
  0x0A0A0A0A0A0A0A0A0A0A0A0A0A0A0A0A0A0A0A0A0A0A0A0A0A0A0A0A0A0A0A0A0B0C0D0E0F101011121313141414151515151514141313121211100F0E0E0D0C,
  0x0B0A0A0A0A0A0A0A0A0A0A0A0A0A0A0A0A0A0A0A0A0A0A0A0A0A0A0A0A0A0A0A0A0A0A0A0A0A0A0A0A0A0A0A0A0A0A0A0A0A0A0A0A0A0A0A0A0A0A0A0A0A0A0A,
  0x0A0A0A0A0A0A0A0A0A0C1014191E242930363D444B535B6364646464646464646464646464646464646464646464646464646464646464646464646464646464,
  0x646464646464646464646464645F554B42382F271E160F0A0A0A0A0A0A0A0A0A0A0A0A0A0A0A0A0A0A0A0A0A0A0A0A0A0A0A0A0A0A0A0A0A0A0A0A0A0A0A0A0A,
  0x0A0A0A0A0A0A0A0A0A0A0A0A0A0A0A0A0A0A0A0A0A0A0A0A0A0A0A0A0A0A0A0A0A0A0A0A0A0A0A0A0A0A0A0A0A0A0A0A0A0A0A0A0A0A0A0A0A0A0A0A0A0A0A0A,
  0x0A0A0A0A0A0A0A0A0A0A0A0A0A0A0A0A0A0A0A0A0A0A0A0A0A0A0A0A0A0A0A0A0A0A0A0A0A0A0A0A0A0A0A0A0A0A0A0A0A0A0A0A0A0A0A0A0A0A0A0A0A0A0A0A,
  0x0A0A0A0A0A0A0A0A0A0A0A0A0A0A0A0A0A0A0A0A0A0A0A0A0A0A0A0A0A0A0A0A0A0A0A0A0A0A0A0A0A0A0A0A0A0A0A0A0A0A0A0A0A0A0A0A0A0A0A0A0A0A0A0A,
  0x0A0A0A0A0A0A0A0A0A0A0A0A0A0A0A0A0A0A0A0A0A0A0A0A0A0A0A0A0A0A0A0A0A0A0A0A0A0A0A0A0A0A0A0A0A0A0A0A0A0A0A0A0A0A0A0A0A0A0A0A0A0A0A0A,
  0x0A0A0A0A0A0A0A0A0A0A0B0B0C0C0C0D0D0D0D0D0C0C0C0B0B0A0A0A0A0A0A0A0A0A0A0A0A0A0A0A0A0A0A0A0A0A0A0A0A0A0A0A0A0A0A0A0A0A0A0A0A0A0A0A,
  0x0A0A0A0A0A0A0A0A0A0A0A0A0A0A0A0A0A0A0A0A0A0A0A0A0A0A0A0A0A0A0A0A0A0A0A0A0A0A0A0A0A0A0A0A0A0A0A0A0A0A0A0A0A0A0A0A111820283039414B,
  0x545E64646464646464646464646464646464646464646464646464646464646464646464646464646464646464646464646464646464646460574F463F37302A,
  0x231D18130E0A0A0A0A0A0A0A0A0A0A0A0A0A0A0A0A0A0A0A0A0A0A0A0A0A0A0B0D0E0E0F101010100F0F0E0C0B0A0A0A0A0A0A0A0A0A0A0A0A0A0A0A0A0A0A0A,
  0x0A0A0A0A0A0A0A0A0A0A0A0A0A0A0A0A0A0A0A0A0A0A0A0A0A0A0A0A0A0A0A0A0A0A0A0A0A0A0A0A0A0A0A0A0B0C0D0E0F0F101010100F0F0E0D0C0B0A0A0A0A,
  0x0A0A0A0A0A0A0A0A0A0A0A0A0A0A0A0A0A0A0A0A0A0A0A0A0A0A0A0A0A0A0A0A0A0A0A0A0A0A0A0A0A0A0A0A0A0A0A0A0A0A0A0A0A0A0A0A0A0A0A0A0A0A0A0A,
  0x0A0A0A0A0A0A0A0A0A0A0A0A0A0A0A0A0A0A0A0A0A0A0A0A0A0A0A0A0A0A0A0A0A0A0A0A0A0A0A0A0A0A0A0A0A0A0A0A0A0A0A0A0A0A0A0A0A0A0A0A0A0A0A0A]

/-- Entries 0xB400 to 0xB7FF (R202). -/
def flickPageB400 : List Nat := [
  0x0A0A0A0A0A0A0A0A0A0A0A0A0A0A0A0A0A0A0A0A0A0A0A0A0A0A0A0A0A0A0A0A0A0A0A0A0A0A0A0A0A0A0A0A0A0A0A0A0A0A0A0A0A0A0A0A0A0A0A0A0A0A0A0A,
  0x0A0A0A0A0A0A0A0A0A0A0A0A0A0A0A0A0A0A0A0A0A0A0A0A0A0A0A0C0D0F101214151718191B1C1D1E1E1F1F1F1F1F1E1E1C1B1A181613110E0B0A0A0A0A0A0A,
  0x0A0A0A0A0A0A0A0A0A0A0A0A0A0A0A0A0A0A0A0A0A0A0A0A0A0A0A0A0A0A0A0A0A0A0A0A0A0A0A0D161F28313A444D5760646464646464646464646464646464,
  0x646464646464646464646464646464646464646464646464646464645C554E474039332D27221D18130F0C0A0A0A0A0A0A0A0A0A0A0A0A0A0A0A0A0A0A0A0A0C,
  0x0E0F11131517181A1B1C1D1D1E1E1E1E1E1D1D1C1B1918161413110E0C0A0A0A0A0A0A0A0A0A0A0A0A0A0A0A0A0A0A0A0A0A0A0A0A0A0A0A0A0A0A0A0A0A0A0A,
  0x0A0A0B0D0F121416181A1C1E1F202223242425252525252424232221201F1D1C1A1917151312100E0D0B0A0A0A0A0A0A0A0A0A0A0A0A0A0A0A0A0A0A0A0A0A0A,
  0x0A0A0A0A0A0A0B0C0D0D0E0F0F10101010100F0F0E0D0C0B0A0A0A0A0A0A0A0A0A0A0A0A0A0A0A0A0A0A0A0A0A0A0A0A0A0A0A0A0A0A0A0A0A0A0A0A0A0A0A0A,
  0x0A0A0A0A0A0A0A0A0A0A0A0A0A0A0A0A0A0A0A0A0A0A0A0A0A0A0A0A0A0A0A0A0A0A0A0A0A0A0A0A0A0A0A0A0A0A0A0A0A0A0A0A0A0A0A0A0A0A0A0A0A0A0A0A,
  0x0A0A0A0A0A0A0A0A0A0A0A0A0A0A0A0A0A0A0A0A0A0A0A0A0A0A0A0A0A0A0A0A0A0A0A0A0A0A0A0A0A0A0A0A0A0A0A0A0A0A0A0B0D0F111416191C1F2225292C,
  0x3033373B3E4245494C4F5255585B5D5F606263646464646362605E5C5956524E4A46403B36302A231D160F0A0A0A0A0A0A0A0A0A0A0A0A0A0A0A0A0A0A0A0A0A,
  0x0A0A0A0A0A0A0A0A0A0A0A0A0A0A0A0A0A0A0A0A0A0A0A0B131A21282F363D43494E53585C6063646464646464646464646464605D5955514C47423D37322C26,
  0x211B15100B0A0A0A0A0A0A0A0A0A0A0A0A0A0A0A0A0A0A0A0A0A0A0A0A0A0A0A0A0A0A0A0A0A0A0A0A0A0A0A0A0C0E1011131415161717181818171716161514,
  0x1312100F0E0C0B0A0A0A0A0A0A0A0A0A0A0A0A0A0A0A0A0A0A0A0A0A0A0A0A0A0C0E1012131517191B1C1E202123242526272728282828282727262524232120,
  0x1E1C1B19171513100E0C0A0A0A0A0A0A0A0A0A0A0A0A0A0A0A0A0A0A0A0A0A0A0A0A0A0A0A0A0A0A0A0A0A0B0C0E0F1112141516171818191919191919191817,
  0x1615141311100E0C0B0A0A0A0A0A0A0A0A0A0A0A0A0A0A0A0A0A0A0A0A0A0A0A0A0A0A0A0A0A0A0A0A0A0A0A0A0A0A0A0A0A0A0A0A0A0A0A0A0A0B0C0D0E0F0F,
  0x1010111111111110100F0F0E0E0D0C0C0B0A0A0A0A0A0A0A0A0A0A0A0A0A0A0A0A0A0A0A0A0A0A0A0A0A0A0A0A0A0A0A0A0A0A0A0A0A0A0A0A0A0A0A0A0A0A0A]

/-- Entries 0xB800 to 0xBBFF (R202). -/
def flickPageB800 : List Nat := [
  0x0A0A0A0A0A0A0A0A0A0A0A0A0A0A0A0A0A0A0A0B0D0F1215181B1F23272B30353A3F454B50565C62646464646464646464646464646464646464646464646464,
  0x6464646464646464646464646464646464645C534A40372E251C130A0A0A0A0A0A0A0A0A0A0A0A0A0A0A0A0A0A0A0A0A0A0A0A0A0A0A0A0A0A0A0A0A0A0A0A0A,
  0x0A0A0A0A0A0A0A0A0A0C0F12141617181919191918171513110E0C0A0A0A0A0A0A0A0A0A0A0A0A0A0A0A0A0A0A0A0A0A0A0A0A0A0A0A0A0A0A0A0A0A0A0A0A0A,
  0x0A0A0A0A0A0A0A0A0A0A0A0A0A0A0A0A0A0A0A0A0A0A0A0A0A0A0A0A0A0A0A0A0A0A0A0A0A0A0A0A0A0A0A0A0A0A0A0A0A0A0A0A0A0A0A0A0A0A0A0A0A0A0A0A,
  0x0A0A0A0A0A0A0A0A0A0A0B0D0E0F10111213141515151616151514141312110F0E0C0A0A0A0A0A0A0A0A0A0A0A0A0A0A0A0A0A0A0A0A0A0A0A0A0A0A0A0A0A0A,
  0x0A0A0A0A0A0A0A0A0A0A0A0A0A0A0A0A0A0A0A0A0A0A0A0A0A0A0C0D0F1011121314141515151515141413131211100F0E0D0C0A0A0A0A0A0A0A0A0A0A0A0A0A,
  0x0A0A0A0A0A0A0A0A0A0A0A0A0A0A0A0A0A0A0A0A0A0B0C0D0E0F1011121313141414151515151514141413121211100F0F0E0D0C0B0A0A0A0A0A0A0A0A0A0A0A,
  0x0A0A0A0A0A0A0A0A0A0A0A0A0A0A0A0A0A0A0A0A0A0A0A0A0A0A0A0A0A0A0A0A0A0A0A0A0A0A0A0A0A0A0A0A0A0A0A0A0A0A0A0A0A0A0A0A0A0A0A0A0A0B0F13,
  0x181D23282E353C434A51596164646464646464646464646464646464646464646464646464646464646464646464646464646464646464646464646464646464,
  0x6461574D443A31282018100A0A0A0A0A0A0A0A0A0A0A0A0A0A0A0A0A0A0A0A0A0A0A0A0A0A0A0A0A0A0A0A0A0A0A0A0A0A0A0A0A0A0A0A0A0A0A0A0A0A0A0A0A,
  0x0A0A0A0A0A0A0A0A0A0A0A0A0A0A0A0A0A0A0A0A0A0A0A0A0A0A0A0A0A0A0A0A0A0A0A0A0A0A0A0A0A0A0A0A0A0A0A0A0A0A0A0A0A0A0A0A0A0A0A0A0A0A0A0A,
  0x0A0A0A0A0A0A0A0A0A0A0A0A0A0A0A0A0A0A0A0A0A0A0A0A0A0A0A0A0A0A0A0A0A0A0A0A0A0A0A0A0A0A0A0A0A0A0A0A0A0A0A0A0A0A0A0A0A0A0A0A0A0A0A0A,
  0x0A0A0A0A0A0A0A0A0A0A0A0A0A0A0A0A0A0A0A0A0A0A0A0A0A0A0A0A0A0A0A0A0A0A0A0A0A0A0A0A0A0A0A0A0A0A0A0A0A0A0A0A0A0A0A0A0A0A0A0A0A0A0A0A,
  0x0A0A0A0A0A0A0A0A0A0A0A0A0A0A0A0A0A0A0A0A0A0A0A0A0A0A0A0A0A0A0A0A0A0A0A0A0A0A0A0A0A0A0A0A0A0A0A0A0A0A0A0A0A0A0A0A0A0A0A0A0A0A0B0B,
  0x0C0C0C0D0D0D0D0D0C0C0C0B0B0A0A0A0A0A0A0A0A0A0A0A0A0A0A0A0A0A0A0A0A0A0A0A0A0A0A0A0A0A0A0A0A0A0A0A0A0A0A0A0A0A0A0A0A0A0A0A0A0A0A0A,
  0x0A0A0A0A0A0A0A0A0A0A0A0A0A0A0A0A0A0A0A0A0A0A0A0A0A0A0A0A0A0A0A0A0A0A0A0A0A0A0A0A0A0A0A0A0F171E262E374049525C64646464646464646464]

/-- Entries 0xBC00 to 0xBFFF (R202). -/
def flickPageBC00 : List Nat := [
  0x6464646464646464646464646464646464646464646464646464646464646464646464646464646464646464615950484039322B241E19140F0B0A0A0A0A0A0A,
  0x0A0A0A0A0A0A0A0A0A0A0A0A0A0A0A0A0A0A0A0B0C0D0E0F0F1010100F0F0E0D0B0A0A0A0A0A0A0A0A0A0A0A0A0A0A0A0A0A0A0A0A0A0A0A0A0A0A0A0A0A0A0A,
  0x0A0A0A0A0A0A0A0A0A0A0A0A0A0A0A0A0A0A0A0A0A0A0A0A0A0A0A0A0A0A0A0A0B0C0D0E0F0F101010100F0F0E0D0C0C0A0A0A0A0A0A0A0A0A0A0A0A0A0A0A0A,
  0x0A0A0A0A0A0A0A0A0A0A0A0A0A0A0A0A0A0A0A0A0A0A0A0A0A0A0A0A0A0A0A0A0A0A0A0A0A0A0A0A0A0A0A0A0A0A0A0A0A0A0A0A0A0A0A0A0A0A0A0A0A0A0A0A,
  0x0A0A0A0A0A0A0A0A0A0A0A0A0A0A0A0A0A0A0A0A0A0A0A0A0A0A0A0A0A0A0A0A0A0A0A0A0A0A0A0A0A0A0A0A0A0A0A0A0A0A0A0A0A0A0A0A0A0A0A0A0A0A0A0A,
  0x0A0A0A0A0A0A0A0A0A0A0A0A0A0A0A0A0A0A0A0A0A0A0A0A0A0A0A0A0A0A0A0A0A0A0A0A0A0A0A0A0A0A0A0A0A0A0A0A0A0A0A0A0A0A0A0A0A0A0A0A0A0A0A0A,
  0x0A0A0A0A0A0A0A0A0A0A0A0A0A0A0A0B0D0E101213151618191A1C1D1E1E1F1F1F1F1F1E1E1D1B1A181614110E0C0A0A0A0A0A0A0A0A0A0A0A0A0A0A0A0A0A0A,
  0x0A0A0A0A0A0A0A0A0A0A0A0A0A0A0A0A0A0A0A0A0A0A0A0A0A0A0A0B141D262F39424C555F646464646464646464646464646464646464646464646464646464,
  0x646464646464646464646464646464645E564F48413B342E28231E1914100D0A0A0A0A0A0A0A0A0A0A0A0A0A0A0A0A0A0A0A0A0B0D0F1113151618191B1C1D1D,
  0x1E1E1E1E1E1E1D1C1B1A18161513110F0D0A0A0A0A0A0A0A0A0A0A0A0A0A0A0A0A0A0A0A0A0A0A0A0A0A0A0A0A0A0A0A0A0A0A0A0A0A0A0D0F111416181A1C1D,
  0x1F202123232425252525252524232221201F1E1C1B1917161412100F0D0B0A0A0A0A0A0A0A0A0A0A0A0A0A0A0A0A0A0A0A0A0A0A0A0A0A0A0A0A0B0C0C0D0E0F,
  0x0F0F101010100F0F0E0E0D0B0A0A0A0A0A0A0A0A0A0A0A0A0A0A0A0A0A0A0A0A0A0A0A0A0A0A0A0A0A0A0A0A0A0A0A0A0A0A0A0A0A0A0A0A0A0A0A0A0A0A0A0A,
  0x0A0A0A0A0A0A0A0A0A0A0A0A0A0A0A0A0A0A0A0A0A0A0A0A0A0A0A0A0A0A0A0A0A0A0A0A0A0A0A0A0A0A0A0A0A0A0A0A0A0A0A0A0A0A0A0A0A0A0A0A0A0A0A0A,
  0x0A0A0A0A0A0A0A0A0A0A0A0A0A0A0A0A0A0A0A0A0A0A0A0A0A0A0A0A0A0A0A0A0A0A0A0A0A0A0A0B0C0F111316191B1E2225282C2F33363A3E4145484B4F5255,
  0x585A5C5E606263646464646362615F5C5A57534F4B46413C37312B241E17100A0A0A0A0A0A0A0A0A0A0A0A0A0A0A0A0A0A0A0A0A0A0A0A0A0A0A0A0A0A0A0A0A,
  0x0A0A0A0A0A0A0A0A0A0A0A0A111920272E353B42474D52575B5F62646464646464646464646464615E5A56524D48433E38332D27221C16110C0A0A0A0A0A0A0A]

/-- The sixteen pages of part 2 (R202), in index order. -/
def flickPart2 : List (List Nat) :=
  [flickPage8000, flickPage8400, flickPage8800, flickPage8C00, flickPage9000, flickPage9400, flickPage9800, flickPage9C00,
   flickPageA000, flickPageA400, flickPageA800, flickPageAC00, flickPageB000, flickPageB400, flickPageB800, flickPageBC00]

end Sys2Proof.Machine
end

