-- ==== Sys2Proof/Machine/FlickRom3.lean ====
section
/-! DEFINITION. The flicker ROM `FLICK`, entries 0xC000 to 0xFFFF: 43_flicker_rom_3.md rule R203, line for line.
A row is one line of the spec's listing, 64 entries of two hexadecimal digits read as one number, so that the row's first
entry is its most significant byte. A page is 16 rows, 1024 entries. `Machine/Flicker.lean` reads the table. -/

namespace Sys2Proof.Machine

/-- Entries 0xC000 to 0xC3FF (R203). -/
def flickPageC000 : List Nat := [
  0x0A0A0A0A0A0A0A0A0A0A0A0A0A0A0A0A0A0A0A0A0A0A0A0A0A0A0A0A0A0A0A0A0A0B0D0F111314151617171818181717171615141312100F0E0C0B0A0A0A0A0A,
  0x0A0A0A0A0A0A0A0A0A0A0A0A0A0A0A0A0A0A0A0A0C0E0F11131517191A1C1E1F21222425262627282828282828272625242322201F1D1B19171513110F0D0B0A,
  0x0A0A0A0A0A0A0A0A0A0A0A0A0A0A0A0A0A0A0A0A0A0A0A0A0A0A0A0A0A0A0A0A0C0E0F11121315161717181919191919191918171715141312100E0D0B0A0A0A,
  0x0A0A0A0A0A0A0A0A0A0A0A0A0A0A0A0A0A0A0A0A0A0A0A0A0A0A0A0A0A0A0A0A0A0A0A0A0A0A0A0A0A0A0A0A0A0A0B0C0D0E0F0F101011111111111010100F0F,
  0x0E0D0C0C0B0A0A0A0A0A0A0A0A0A0A0A0A0A0A0A0A0A0A0A0A0A0A0A0A0A0A0A0A0A0A0A0A0A0A0A0A0A0A0A0A0A0A0A0A0A0A0A0A0A0A0A0A0A0A0A0A0A0A0A,
  0x0A0A0A0A0A0A0A0A0C0F1114171B1E22262B2F34393E44494F555B61646464646464646464646464646464646464646464646464646464646464646464646464,
  0x6464646464645D544B423930271E150C0A0A0A0A0A0A0A0A0A0A0A0A0A0A0A0A0A0A0A0A0A0A0A0A0A0A0A0A0A0A0A0A0A0A0A0A0A0A0A0A0A0A0A0A0A0C0F11,
  0x141617181919191918171614110F0C0A0A0A0A0A0A0A0A0A0A0A0A0A0A0A0A0A0A0A0A0A0A0A0A0A0A0A0A0A0A0A0A0A0A0A0A0A0A0A0A0A0A0A0A0A0A0A0A0A,
  0x0A0A0A0A0A0A0A0A0A0A0A0A0A0A0A0A0A0A0A0A0A0A0A0A0A0A0A0A0A0A0A0A0A0A0A0A0A0A0A0A0A0A0A0A0A0A0A0A0A0A0A0A0A0A0A0A0A0A0A0A0A0A0B0C,
  0x0E0F10111213141515151616151515141312110F0E0C0B0A0A0A0A0A0A0A0A0A0A0A0A0A0A0A0A0A0A0A0A0A0A0A0A0A0A0A0A0A0A0A0A0A0A0A0A0A0A0A0A0A,
  0x0A0A0A0A0A0A0A0A0A0A0A0A0A0A0B0D0E1011121314141515151515151414131211100F0E0D0C0B0A0A0A0A0A0A0A0A0A0A0A0A0A0A0A0A0A0A0A0A0A0A0A0A,
  0x0A0A0A0A0A0A0A0A0A0B0C0D0E0F101112121314141415151515151414141313121110100F0E0D0C0B0A0A0A0A0A0A0A0A0A0A0A0A0A0A0A0A0A0A0A0A0A0A0A,
  0x0A0A0A0A0A0A0A0A0A0A0A0A0A0A0A0A0A0A0A0A0A0A0A0A0A0A0A0A0A0A0A0A0A0A0A0A0A0A0A0A0A0A0A0A0A0A0A0A0A0A0E12171C21272D343A4148505860,
  0x646464646464646464646464646464646464646464646464646464646464646464646464646464646464646464646464646464646463594F453C332A2219120A,
  0x0A0A0A0A0A0A0A0A0A0A0A0A0A0A0A0A0A0A0A0A0A0A0A0A0A0A0A0A0A0A0A0A0A0A0A0A0A0A0A0A0A0A0A0A0A0A0A0A0A0A0A0A0A0A0A0A0A0A0A0A0A0A0A0A,
  0x0A0A0A0A0A0A0A0A0A0A0A0A0A0A0A0A0A0A0A0A0A0A0A0A0A0A0A0A0A0A0A0A0A0A0A0A0A0A0A0A0A0A0A0A0A0A0A0A0A0A0A0A0A0A0A0A0A0A0A0A0A0A0A0A]

/-- Entries 0xC400 to 0xC7FF (R203). -/
def flickPageC400 : List Nat := [
  0x0A0A0A0A0A0A0A0A0A0A0A0A0A0A0A0A0A0A0A0A0A0A0A0A0A0A0A0A0A0A0A0A0A0A0A0A0A0A0A0A0A0A0A0A0A0A0A0A0A0A0A0A0A0A0A0A0A0A0A0A0A0A0A0A,
  0x0A0A0A0A0A0A0A0A0A0A0A0A0A0A0A0A0A0A0A0A0A0A0A0A0A0A0A0A0A0A0A0A0A0A0A0A0A0A0A0A0A0A0A0A0A0A0A0A0A0A0A0A0A0A0A0A0A0A0A0A0A0A0A0A,
  0x0A0A0A0A0A0A0A0A0A0A0A0A0A0A0A0A0A0A0A0A0A0A0A0A0A0A0A0A0A0A0A0A0A0A0A0A0A0A0A0A0A0A0A0A0A0A0A0A0A0A0B0B0C0C0C0D0D0D0D0D0C0C0C0B,
  0x0B0A0A0A0A0A0A0A0A0A0A0A0A0A0A0A0A0A0A0A0A0A0A0A0A0A0A0A0A0A0A0A0A0A0A0A0A0A0A0A0A0A0A0A0A0A0A0A0A0A0A0A0A0A0A0A0A0A0A0A0A0A0A0A,
  0x0A0A0A0A0A0A0A0A0A0A0A0A0A0A0A0A0A0A0A0A0A0A0A0A0A0A0A0A0A0A0A0A0E151D242D353E47505A63646464646464646464646464646464646464646464,
  0x6464646464646464646464646464646464646464646464646464646464646464635A524A423A332C26201A15100C0A0A0A0A0A0A0A0A0A0A0A0A0A0A0A0A0A0A,
  0x0A0A0A0A0A0A0A0B0C0D0E0F0F1010100F0F0E0D0C0A0A0A0A0A0A0A0A0A0A0A0A0A0A0A0A0A0A0A0A0A0A0A0A0A0A0A0A0A0A0A0A0A0A0A0A0A0A0A0A0A0A0A,
  0x0A0A0A0A0A0A0A0A0A0A0A0A0A0A0A0A0A0A0A0A0A0C0D0E0F0F101010100F0F0E0E0D0C0B0A0A0A0A0A0A0A0A0A0A0A0A0A0A0A0A0A0A0A0A0A0A0A0A0A0A0A,
  0x0A0A0A0A0A0A0A0A0A0A0A0A0A0A0A0A0A0A0A0A0A0A0A0A0A0A0A0A0A0A0A0A0A0A0A0A0A0A0A0A0A0A0A0A0A0A0A0A0A0A0A0A0A0A0A0A0A0A0A0A0A0A0A0A,
  0x0A0A0A0A0A0A0A0A0A0A0A0A0A0A0A0A0A0A0A0A0A0A0A0A0A0A0A0A0A0A0A0A0A0A0A0A0A0A0A0A0A0A0A0A0A0A0A0A0A0A0A0A0A0A0A0A0A0A0A0A0A0A0A0A,
  0x0A0A0A0A0A0A0A0A0A0A0A0A0A0A0A0A0A0A0A0A0A0A0A0A0A0A0A0A0A0A0A0A0A0A0A0A0A0A0A0A0A0A0A0A0A0A0A0A0A0A0A0A0A0A0A0A0A0A0A0A0A0A0A0A,
  0x0A0A0A0B0D0E101113151618191A1B1C1D1E1F1F1F1F1F1F1E1D1C1A181614120F0C0A0A0A0A0A0A0A0A0A0A0A0A0A0A0A0A0A0A0A0A0A0A0A0A0A0A0A0A0A0A,
  0x0A0A0A0A0A0A0A0A0A0A0A0A0A0A0A0A121B242D37404A535D646464646464646464646464646464646464646464646464646464646464646464646464646464,
  0x646464645F585149433C352F29241F1A15110D0A0A0A0A0A0A0A0A0A0A0A0A0A0A0A0A0A0A0A0A0B0D0F1113141618191A1C1C1D1E1E1E1E1E1E1D1C1B1A1817,
  0x1513110F0D0B0A0A0A0A0A0A0A0A0A0A0A0A0A0A0A0A0A0A0A0A0A0A0A0A0A0A0A0A0A0A0A0A0A0A0A0A0A0C0F11131517191B1D1F2021222324252525252525,
  0x24232322201F1E1C1B1918161412110F0D0C0A0A0A0A0A0A0A0A0A0A0A0A0A0A0A0A0A0A0A0A0A0A0A0A0A0A0A0A0A0B0C0D0E0E0F0F10101010100F0E0E0D0C]

/-- Entries 0xC800 to 0xCBFF (R203). -/
def flickPageC800 : List Nat := [
  0x0A0A0A0A0A0A0A0A0A0A0A0A0A0A0A0A0A0A0A0A0A0A0A0A0A0A0A0A0A0A0A0A0A0A0A0A0A0A0A0A0A0A0A0A0A0A0A0A0A0A0A0A0A0A0A0A0A0A0A0A0A0A0A0A,
  0x0A0A0A0A0A0A0A0A0A0A0A0A0A0A0A0A0A0A0A0A0A0A0A0A0A0A0A0A0A0A0A0A0A0A0A0A0A0A0A0A0A0A0A0A0A0A0A0A0A0A0A0A0A0A0A0A0A0A0A0A0A0A0A0A,
  0x0A0A0A0A0A0A0A0A0A0A0A0A0A0A0A0A0A0A0A0A0A0A0A0A0A0A0A0A0C0E101315181B1E2124272B2E3236393D4044474B4E5154575A5C5E6061636364646463,
  0x62615F5D5A5754504C47423D38322C261F19120B0A0A0A0A0A0A0A0A0A0A0A0A0A0A0A0A0A0A0A0A0A0A0A0A0A0A0A0A0A0A0A0A0A0A0A0A0A0A0A0A0A0A0A0A,
  0x10171E262D333A40464C51565A5E62646464646464646464646464625E5B57534E49443F39342E29231D18120D0A0A0A0A0A0A0A0A0A0A0A0A0A0A0A0A0A0A0A,
  0x0A0A0A0A0A0A0A0A0A0A0A0A0A0A0A0A0A0A0A0A0A0B0D0F111214151617171818181817171615141312110F0E0D0B0A0A0A0A0A0A0A0A0A0A0A0A0A0A0A0A0A,
  0x0A0A0A0A0A0A0A0A0B0D0F11131516181A1C1D1F21222324252627282828282828272626242322201F1D1B19171513110F0D0B0A0A0A0A0A0A0A0A0A0A0A0A0A,
  0x0A0A0A0A0A0A0A0A0A0A0A0A0A0A0A0A0A0A0A0A0C0D0F10121314151617181919191919191918181716151312100F0D0B0A0A0A0A0A0A0A0A0A0A0A0A0A0A0A,
  0x0A0A0A0A0A0A0A0A0A0A0A0A0A0A0A0A0A0A0A0A0A0A0A0A0A0A0A0A0A0A0A0A0A0A0B0C0D0E0F0F101010111111111010100F0F0E0D0D0C0B0A0A0A0A0A0A0A,
  0x0A0A0A0A0A0A0A0A0A0A0A0A0A0A0A0A0A0A0A0A0A0A0A0A0A0A0A0A0A0A0A0A0A0A0A0A0A0A0A0A0A0A0A0A0A0A0A0A0A0A0A0A0A0A0A0A0A0A0A0A0C0E1114,
  0x171A1E21252A2E33383D43484E545A606464646464646464646464646464646464646464646464646464646464646464646464646464646464645F564D443B32,
  0x2920170E0A0A0A0A0A0A0A0A0A0A0A0A0A0A0A0A0A0A0A0A0A0A0A0A0A0A0A0A0A0A0A0A0A0A0A0A0A0A0A0A0A0A0A0A0A0B0E11131517181919191918171614,
  0x120F0D0A0A0A0A0A0A0A0A0A0A0A0A0A0A0A0A0A0A0A0A0A0A0A0A0A0A0A0A0A0A0A0A0A0A0A0A0A0A0A0A0A0A0A0A0A0A0A0A0A0A0A0A0A0A0A0A0A0A0A0A0A,
  0x0A0A0A0A0A0A0A0A0A0A0A0A0A0A0A0A0A0A0A0A0A0A0A0A0A0A0A0A0A0A0A0A0A0A0A0A0A0A0A0A0A0A0A0A0A0A0A0A0A0A0B0C0D0F10111213141415151616,
  0x15151514131211100E0D0B0A0A0A0A0A0A0A0A0A0A0A0A0A0A0A0A0A0A0A0A0A0A0A0A0A0A0A0A0A0A0A0A0A0A0A0A0A0A0A0A0A0A0A0A0A0A0A0A0A0A0A0A0A,
  0x0A0A0B0D0E0F11121314141515151515151414131211100F0E0D0C0B0A0A0A0A0A0A0A0A0A0A0A0A0A0A0A0A0A0A0A0A0A0A0A0A0A0A0A0A0A0A0A0A0A0B0C0D]

/-- Entries 0xCC00 to 0xCFFF (R203). -/
def flickPageCC00 : List Nat := [
  0x0E0F101112121313141415151515151414141313121111100F0E0D0C0B0A0A0A0A0A0A0A0A0A0A0A0A0A0A0A0A0A0A0A0A0A0A0A0A0A0A0A0A0A0A0A0A0A0A0A,
  0x0A0A0A0A0A0A0A0A0A0A0A0A0A0A0A0A0A0A0A0A0A0A0A0A0A0A0A0A0A0A0A0A0A0A0A0A0A0A0D12161B20262C323940474E565E646464646464646464646464,
  0x6464646464646464646464646464646464646464646464646464646464646464646464646464646464645B51473E352C231B130C0A0A0A0A0A0A0A0A0A0A0A0A,
  0x0A0A0A0A0A0A0A0A0A0A0A0A0A0A0A0A0A0A0A0A0A0A0A0A0A0A0A0A0A0A0A0A0A0A0A0A0A0A0A0A0A0A0A0A0A0A0A0A0A0A0A0A0A0A0A0A0A0A0A0A0A0A0A0A,
  0x0A0A0A0A0A0A0A0A0A0A0A0A0A0A0A0A0A0A0A0A0A0A0A0A0A0A0A0A0A0A0A0A0A0A0A0A0A0A0A0A0A0A0A0A0A0A0A0A0A0A0A0A0A0A0A0A0A0A0A0A0A0A0A0A,
  0x0A0A0A0A0A0A0A0A0A0A0A0A0A0A0A0A0A0A0A0A0A0A0A0A0A0A0A0A0A0A0A0A0A0A0A0A0A0A0A0A0A0A0A0A0A0A0A0A0A0A0A0A0A0A0A0A0A0A0A0A0A0A0A0A,
  0x0A0A0A0A0A0A0A0A0A0A0A0A0A0A0A0A0A0A0A0A0A0A0A0A0A0A0A0A0A0A0A0A0A0A0A0A0A0A0A0A0A0A0A0A0A0A0A0A0A0A0A0A0A0A0A0A0A0A0A0A0A0A0A0A,
  0x0A0A0A0A0A0A0A0A0A0A0A0A0A0A0A0A0A0A0A0A0A0A0A0A0A0A0A0A0A0A0A0A0A0A0A0A0A0A0B0B0C0C0C0D0D0D0D0D0C0C0C0C0B0B0A0A0A0A0A0A0A0A0A0A,
  0x0A0A0A0A0A0A0A0A0A0A0A0A0A0A0A0A0A0A0A0A0A0A0A0A0A0A0A0A0A0A0A0A0A0A0A0A0A0A0A0A0A0A0A0A0A0A0A0A0A0A0A0A0A0A0A0A0A0A0A0A0A0A0A0A,
  0x0A0A0A0A0A0A0A0A0A0A0A0A0A0A0A0A0A0A0A0A0D141B232B333C454E5862646464646464646464646464646464646464646464646464646464646464646464,
  0x6464646464646464646464646464646464646464645C534B433C342D27211B16110C0A0A0A0A0A0A0A0A0A0A0A0A0A0A0A0A0A0A0A0A0A0A0A0A0A0B0C0D0E0F,
  0x0F1010100F0F0E0D0C0A0A0A0A0A0A0A0A0A0A0A0A0A0A0A0A0A0A0A0A0A0A0A0A0A0A0A0A0A0A0A0A0A0A0A0A0A0A0A0A0A0A0A0A0A0A0A0A0A0A0A0A0A0A0A,
  0x0A0A0A0A0A0A0A0A0A0C0D0E0E0F101010100F0F0E0E0D0C0B0A0A0A0A0A0A0A0A0A0A0A0A0A0A0A0A0A0A0A0A0A0A0A0A0A0A0A0A0A0A0A0A0A0A0A0A0A0A0A,
  0x0A0A0A0A0A0A0A0A0A0A0A0A0A0A0A0A0A0A0A0A0A0A0A0A0A0A0A0A0A0A0A0A0A0A0A0A0A0A0A0A0A0A0A0A0A0A0A0A0A0A0A0A0A0A0A0A0A0A0A0A0A0A0A0A,
  0x0A0A0A0A0A0A0A0A0A0A0A0A0A0A0A0A0A0A0A0A0A0A0A0A0A0A0A0A0A0A0A0A0A0A0A0A0A0A0A0A0A0A0A0A0A0A0A0A0A0A0A0A0A0A0A0A0A0A0A0A0A0A0A0A,
  0x0A0A0A0A0A0A0A0A0A0A0A0A0A0A0A0A0A0A0A0A0A0A0A0A0A0A0A0A0A0A0A0A0A0A0A0A0A0A0A0A0A0A0A0A0A0A0A0A0A0A0A0A0A0A0A0B0C0E0F1113141617]

/-- Entries 0xD000 to 0xD3FF (R203). -/
def flickPageD000 : List Nat := [
  0x191A1B1C1D1E1F1F1F1F1F1F1E1D1C1B19171512100D0A0A0A0A0A0A0A0A0A0A0A0A0A0A0A0A0A0A0A0A0A0A0A0A0A0A0A0A0A0A0A0A0A0A0A0A0A0A0A0A0A0A,
  0x0A0A0A0A1019222C353E48515B646464646464646464646464646464646464646464646464646464646464646464646464646464646464646159524B443D3730,
  0x2A25201B16120E0B0A0A0A0A0A0A0A0A0A0A0A0A0A0A0A0A0A0A0A0A0C0E1012141617191A1B1C1D1E1E1E1E1E1E1D1C1B1A1917151412100E0B0A0A0A0A0A0A,
  0x0A0A0A0A0A0A0A0A0A0A0A0A0A0A0A0A0A0A0A0A0A0A0A0A0A0A0A0A0A0A0A0C0E10131517191B1D1E202122232424252525252524242322211F1E1D1B1A1816,
  0x1413110F0E0C0A0A0A0A0A0A0A0A0A0A0A0A0A0A0A0A0A0A0A0A0A0A0A0A0A0A0A0A0A0B0C0D0E0E0F0F10101010100F0F0E0D0C0B0A0A0A0A0A0A0A0A0A0A0A,
  0x0A0A0A0A0A0A0A0A0A0A0A0A0A0A0A0A0A0A0A0A0A0A0A0A0A0A0A0A0A0A0A0A0A0A0A0A0A0A0A0A0A0A0A0A0A0A0A0A0A0A0A0A0A0A0A0A0A0A0A0A0A0A0A0A,
  0x0A0A0A0A0A0A0A0A0A0A0A0A0A0A0A0A0A0A0A0A0A0A0A0A0A0A0A0A0A0A0A0A0A0A0A0A0A0A0A0A0A0A0A0A0A0A0A0A0A0A0A0A0A0A0A0A0A0A0A0A0A0A0A0A,
  0x0A0A0A0A0A0A0A0A0A0A0A0A0A0A0A0A0C0E101215171A1D2024272A2E3135393C4043474A4E515457595C5E606162636464646363615F5D5B5855514D48433E,
  0x39332D27211A130C0A0A0A0A0A0A0A0A0A0A0A0A0A0A0A0A0A0A0A0A0A0A0A0A0A0A0A0A0A0A0A0A0A0A0A0A0A0A0A0A0A0A0A0A0E161D242B32393F454B5055,
  0x5A5E61646464646464646464646464625F5C58534F4A45403A352F2A241E19130E0A0A0A0A0A0A0A0A0A0A0A0A0A0A0A0A0A0A0A0A0A0A0A0A0A0A0A0A0A0A0A,
  0x0A0A0A0A0A0A0A0A0A0A0D0F10121315161617181818181717161514131211100E0D0C0A0A0A0A0A0A0A0A0A0A0A0A0A0A0A0A0A0A0A0A0A0A0A0A0A0B0D0F10,
  0x121416181A1B1D1F20222324252627272828282828272726252422211F1E1C1A18161412100D0B0A0A0A0A0A0A0A0A0A0A0A0A0A0A0A0A0A0A0A0A0A0A0A0A0A,
  0x0A0A0A0A0A0A0A0A0B0D0F10121314151617181919191919191918181716151412110F0D0C0A0A0A0A0A0A0A0A0A0A0A0A0A0A0A0A0A0A0A0A0A0A0A0A0A0A0A,
  0x0A0A0A0A0A0A0A0A0A0A0A0A0A0A0A0A0A0A0A0A0A0A0B0C0D0E0E0F101010111111111010100F0F0E0D0D0C0B0A0A0A0A0A0A0A0A0A0A0A0A0A0A0A0A0A0A0A,
  0x0A0A0A0A0A0A0A0A0A0A0A0A0A0A0A0A0A0A0A0A0A0A0A0A0A0A0A0A0A0A0A0A0A0A0A0A0A0A0A0A0A0A0A0A0A0A0A0A0B0E101316191D2125292D32373C4247,
  0x4D53595F64646464646464646464646464646464646464646464646464646464646464646464646464646464646461584F463D332A21180F0A0A0A0A0A0A0A0A]

/-- Entries 0xD400 to 0xD7FF (R203). -/
def flickPageD400 : List Nat := [
  0x0A0A0A0A0A0A0A0A0A0A0A0A0A0A0A0A0A0A0A0A0A0A0A0A0A0A0A0A0A0A0A0A0A0A0A0A0A0A0E1013151718191919191918161412100D0A0A0A0A0A0A0A0A0A,
  0x0A0A0A0A0A0A0A0A0A0A0A0A0A0A0A0A0A0A0A0A0A0A0A0A0A0A0A0A0A0A0A0A0A0A0A0A0A0A0A0A0A0A0A0A0A0A0A0A0A0A0A0A0A0A0A0A0A0A0A0A0A0A0A0A,
  0x0A0A0A0A0A0A0A0A0A0A0A0A0A0A0A0A0A0A0A0A0A0A0A0A0A0A0A0A0A0A0A0A0A0A0A0A0A0A0A0C0D0E1011121314141515151615151514131211100F0D0B0A,
  0x0A0A0A0A0A0A0A0A0A0A0A0A0A0A0A0A0A0A0A0A0A0A0A0A0A0A0A0A0A0A0A0A0A0A0A0A0A0A0A0A0A0A0A0A0A0A0A0A0A0A0A0A0A0A0B0C0E0F101213131415,
  0x1515151515141413121211100F0D0C0B0A0A0A0A0A0A0A0A0A0A0A0A0A0A0A0A0A0A0A0A0A0A0A0A0A0A0A0A0A0A0A0A0A0B0C0D0E0F10111112131314141515,
  0x1515151414141313121211100F0E0D0C0B0A0A0A0A0A0A0A0A0A0A0A0A0A0A0A0A0A0A0A0A0A0A0A0A0A0A0A0A0A0A0A0A0A0A0A0A0A0A0A0A0A0A0A0A0A0A0A,
  0x0A0A0A0A0A0A0A0A0A0A0A0A0A0A0A0A0A0A0A0A0A0A0A0A0A0A0D11151A1F252B31383E464D555C646464646464646464646464646464646464646464646464,
  0x6464646464646464646464646464646464646464646464646464646464645D534940362D251C150D0A0A0A0A0A0A0A0A0A0A0A0A0A0A0A0A0A0A0A0A0A0A0A0A,
  0x0A0A0A0A0A0A0A0A0A0A0A0A0A0A0A0A0A0A0A0A0A0A0A0A0A0A0A0A0A0A0A0A0A0A0A0A0A0A0A0A0A0A0A0A0A0A0A0A0A0A0A0A0A0A0A0A0A0A0A0A0A0A0A0A,
  0x0A0A0A0A0A0A0A0A0A0A0A0A0A0A0A0A0A0A0A0A0A0A0A0A0A0A0A0A0A0A0A0A0A0A0A0A0A0A0A0A0A0A0A0A0A0A0A0A0A0A0A0A0A0A0A0A0A0A0A0A0A0A0A0A,
  0x0A0A0A0A0A0A0A0A0A0A0A0A0A0A0A0A0A0A0A0A0A0A0A0A0A0A0A0A0A0A0A0A0A0A0A0A0A0A0A0A0A0A0A0A0A0A0A0A0A0A0A0A0A0A0A0A0A0A0A0A0A0A0A0A,
  0x0A0A0A0A0A0A0A0A0A0A0A0A0A0A0A0A0A0A0A0A0A0A0A0A0A0A0A0A0A0A0A0A0A0A0A0A0A0A0A0A0A0A0A0A0A0A0A0A0A0A0A0A0A0A0A0A0A0A0A0A0A0A0A0A,
  0x0A0A0A0A0A0A0A0A0A0A0A0A0A0A0A0A0A0A0A0A0A0A0A0A0A0A0B0B0C0C0C0C0D0D0D0D0D0C0C0C0B0B0A0A0A0A0A0A0A0A0A0A0A0A0A0A0A0A0A0A0A0A0A0A,
  0x0A0A0A0A0A0A0A0A0A0A0A0A0A0A0A0A0A0A0A0A0A0A0A0A0A0A0A0A0A0A0A0A0A0A0A0A0A0A0A0A0A0A0A0A0A0A0A0A0A0A0A0A0A0A0A0A0A0A0A0A0A0A0A0A,
  0x0A0A0A0A0A0A0A0A0B121A2129323A434D5660646464646464646464646464646464646464646464646464646464646464646464646464646464646464646464,
  0x6464646464646464645E554D453D362F28221C17120D0A0A0A0A0A0A0A0A0A0A0A0A0A0A0A0A0A0A0A0A0A0A0A0A0A0A0C0D0E0F0F101010100F0E0D0C0B0A0A]

/-- Entries 0xD800 to 0xDBFF (R203). -/
def flickPageD800 : List Nat := [
  0x0A0A0A0A0A0A0A0A0A0A0A0A0A0A0A0A0A0A0A0A0A0A0A0A0A0A0A0A0A0A0A0A0A0A0A0A0A0A0A0A0A0A0A0A0A0A0A0A0A0A0A0A0A0A0A0A0A0A0A0A0A0B0C0E,
  0x0E0F0F1010100F0F0F0E0D0C0B0A0A0A0A0A0A0A0A0A0A0A0A0A0A0A0A0A0A0A0A0A0A0A0A0A0A0A0A0A0A0A0A0A0A0A0A0A0A0A0A0A0A0A0A0A0A0A0A0A0A0A,
  0x0A0A0A0A0A0A0A0A0A0A0A0A0A0A0A0A0A0A0A0A0A0A0A0A0A0A0A0A0A0A0A0A0A0A0A0A0A0A0A0A0A0A0A0A0A0A0A0A0A0A0A0A0A0A0A0A0A0A0A0A0A0A0A0A,
  0x0A0A0A0A0A0A0A0A0A0A0A0A0A0A0A0A0A0A0A0A0A0A0A0A0A0A0A0A0A0A0A0A0A0A0A0A0A0A0A0A0A0A0A0A0A0A0A0A0A0A0A0A0A0A0A0A0A0A0A0A0A0A0A0A,
  0x0A0A0A0A0A0A0A0A0A0A0A0A0A0A0A0A0A0A0A0A0A0A0A0A0A0A0A0A0A0A0A0A0A0A0A0A0A0A0A0A0A0A0A0A0C0E0F1112141517181A1B1C1D1E1F1F1F1F1F1F,
  0x1E1D1C1B19171513100D0A0A0A0A0A0A0A0A0A0A0A0A0A0A0A0A0A0A0A0A0A0A0A0A0A0A0A0A0A0A0A0A0A0A0A0A0A0A0A0A0A0A0A0A0A0A0F18212A333D4650,
  0x5962646464646464646464646464646464646464646464646464646464646464646464646464646464646464625B534C453E38322C26211B17130F0B0A0A0A0A,
  0x0A0A0A0A0A0A0A0A0A0A0A0A0A0A0A0A0C0E1012141517191A1B1C1D1E1E1E1E1E1E1D1C1B1A1917161412100E0C0A0A0A0A0A0A0A0A0A0A0A0A0A0A0A0A0A0A,
  0x0A0A0A0A0A0A0A0A0A0A0A0A0A0A0A0A0A0A0A0B0E10121417191B1C1E1F212223242425252525252424232221201E1D1B1A1817151311100E0C0B0A0A0A0A0A,
  0x0A0A0A0A0A0A0A0A0A0A0A0A0A0A0A0A0A0A0A0A0A0A0A0B0C0D0E0E0F0F10101010100F0F0E0D0C0B0A0A0A0A0A0A0A0A0A0A0A0A0A0A0A0A0A0A0A0A0A0A0A,
  0x0A0A0A0A0A0A0A0A0A0A0A0A0A0A0A0A0A0A0A0A0A0A0A0A0A0A0A0A0A0A0A0A0A0A0A0A0A0A0A0A0A0A0A0A0A0A0A0A0A0A0A0A0A0A0A0A0A0A0A0A0A0A0A0A,
  0x0A0A0A0A0A0A0A0A0A0A0A0A0A0A0A0A0A0A0A0A0A0A0A0A0A0A0A0A0A0A0A0A0A0A0A0A0A0A0A0A0A0A0A0A0A0A0A0A0A0A0A0A0A0A0A0A0A0A0A0A0A0A0A0A,
  0x0A0A0A0A0B0D0F1214171A1D2023262A2D3134383B3F43464A4D505356595B5D5F616263646464646361605E5B5855524E49443F3A342E28221B140E0A0A0A0A,
  0x0A0A0A0A0A0A0A0A0A0A0A0A0A0A0A0A0A0A0A0A0A0A0A0A0A0A0A0A0A0A0A0A0A0A0A0A0A0A0A0A0D141C232A31383E444A4F54595D60646464646464646464,
  0x64646463605C5854504B46413B36302B251F1A140F0A0A0A0A0A0A0A0A0A0A0A0A0A0A0A0A0A0A0A0A0A0A0A0A0A0A0A0A0A0A0A0A0A0A0A0A0A0A0A0A0A0C0E,
  0x10121314151617171818181717161515141211100F0D0C0B0A0A0A0A0A0A0A0A0A0A0A0A0A0A0A0A0A0A0A0A0A0A0A0A0B0D0E1012141618191B1D1E20212324]

/-- Entries 0xDC00 to 0xDFFF (R203). -/
def flickPageDC00 : List Nat := [
  0x25262727282828282827272625242221201E1C1A18161412100E0C0A0A0A0A0A0A0A0A0A0A0A0A0A0A0A0A0A0A0A0A0A0A0A0A0A0A0A0A0A0A0A0A0A0B0D0E10,
  0x111314151617181819191919191918181716151412110F0E0C0A0A0A0A0A0A0A0A0A0A0A0A0A0A0A0A0A0A0A0A0A0A0A0A0A0A0A0A0A0A0A0A0A0A0A0A0A0A0A,
  0x0A0A0A0A0A0A0A0A0A0A0B0C0D0E0E0F101010111111111010100F0F0E0E0D0C0B0B0A0A0A0A0A0A0A0A0A0A0A0A0A0A0A0A0A0A0A0A0A0A0A0A0A0A0A0A0A0A,
  0x0A0A0A0A0A0A0A0A0A0A0A0A0A0A0A0A0A0A0A0A0A0A0A0A0A0A0A0A0A0A0A0A0A0A0A0A0B0D101215191C2024282D31363B41464C52585E6464646464646464,
  0x64646464646464646464646464646464646464646464646464646464646464646464625A51483E352C231A110A0A0A0A0A0A0A0A0A0A0A0A0A0A0A0A0A0A0A0A,
  0x0A0A0A0A0A0A0A0A0A0A0A0A0A0A0A0A0A0A0A0A0A0A0A0A0A0A0D1012141618191919191918171513100E0B0A0A0A0A0A0A0A0A0A0A0A0A0A0A0A0A0A0A0A0A,
  0x0A0A0A0A0A0A0A0A0A0A0A0A0A0A0A0A0A0A0A0A0A0A0A0A0A0A0A0A0A0A0A0A0A0A0A0A0A0A0A0A0A0A0A0A0A0A0A0A0A0A0A0A0A0A0A0A0A0A0A0A0A0A0A0A,
  0x0A0A0A0A0A0A0A0A0A0A0A0A0A0A0A0A0A0A0A0A0A0A0A0A0A0A0A0C0D0E0F11121313141515151616151514141312100F0D0C0A0A0A0A0A0A0A0A0A0A0A0A0A,
  0x0A0A0A0A0A0A0A0A0A0A0A0A0A0A0A0A0A0A0A0A0A0A0A0A0A0A0A0A0A0A0A0A0A0A0A0A0A0A0A0A0A0A0A0C0D0F101112131414151515151514141313121110,
  0x0F0E0D0B0A0A0A0A0A0A0A0A0A0A0A0A0A0A0A0A0A0A0A0A0A0A0A0A0A0A0A0A0A0A0A0A0A0B0C0D0E0F10101112131314141415151515151414131312121110,
  0x0F0E0D0D0C0B0A0A0A0A0A0A0A0A0A0A0A0A0A0A0A0A0A0A0A0A0A0A0A0A0A0A0A0A0A0A0A0A0A0A0A0A0A0A0A0A0A0A0A0A0A0A0A0A0A0A0A0A0A0A0A0A0A0A,
  0x0A0A0A0A0A0A0A0A0A0A0A0A0A0A0C1014191E242A30363D444B535B636464646464646464646464646464646464646464646464646464646464646464646464,
  0x6464646464646464646464646464646464645F554B41382F261E160E0A0A0A0A0A0A0A0A0A0A0A0A0A0A0A0A0A0A0A0A0A0A0A0A0A0A0A0A0A0A0A0A0A0A0A0A,
  0x0A0A0A0A0A0A0A0A0A0A0A0A0A0A0A0A0A0A0A0A0A0A0A0A0A0A0A0A0A0A0A0A0A0A0A0A0A0A0A0A0A0A0A0A0A0A0A0A0A0A0A0A0A0A0A0A0A0A0A0A0A0A0A0A,
  0x0A0A0A0A0A0A0A0A0A0A0A0A0A0A0A0A0A0A0A0A0A0A0A0A0A0A0A0A0A0A0A0A0A0A0A0A0A0A0A0A0A0A0A0A0A0A0A0A0A0A0A0A0A0A0A0A0A0A0A0A0A0A0A0A,
  0x0A0A0A0A0A0A0A0A0A0A0A0A0A0A0A0A0A0A0A0A0A0A0A0A0A0A0A0A0A0A0A0A0A0A0A0A0A0A0A0A0A0A0A0A0A0A0A0A0A0A0A0A0A0A0A0A0A0A0A0A0A0A0A0A]

/-- Entries 0xE000 to 0xE3FF (R203). -/
def flickPageE000 : List Nat := [
  0x0A0A0A0A0A0A0A0A0A0A0A0A0A0A0A0A0A0A0A0A0A0A0A0A0A0A0A0A0A0A0A0A0A0A0A0A0A0A0A0A0A0A0A0A0A0A0A0A0A0A0A0A0A0A0A0A0A0A0A0A0A0A0A0A,
  0x0A0A0A0A0A0A0A0A0A0A0A0A0A0A0A0B0B0C0C0C0D0D0D0D0D0C0C0C0B0B0A0A0A0A0A0A0A0A0A0A0A0A0A0A0A0A0A0A0A0A0A0A0A0A0A0A0A0A0A0A0A0A0A0A,
  0x0A0A0A0A0A0A0A0A0A0A0A0A0A0A0A0A0A0A0A0A0A0A0A0A0A0A0A0A0A0A0A0A0A0A0A0A0A0A0A0A0A0A0A0A0A0A0A0A0A0A0A0A0A0A0A0A0A0A0A0A0A111820,
  0x283039424B545E6464646464646464646464646464646464646464646464646464646464646464646464646464646464646464646464646464646464645F574E,
  0x463F373029231D18130E0A0A0A0A0A0A0A0A0A0A0A0A0A0A0A0A0A0A0A0A0A0A0A0A0A0A0B0D0E0E0F101010100F0F0E0C0B0A0A0A0A0A0A0A0A0A0A0A0A0A0A,
  0x0A0A0A0A0A0A0A0A0A0A0A0A0A0A0A0A0A0A0A0A0A0A0A0A0A0A0A0A0A0A0A0A0A0A0A0A0A0A0A0A0A0A0A0A0A0A0A0A0A0B0C0D0E0F0F101010100F0F0E0D0C,
  0x0B0A0A0A0A0A0A0A0A0A0A0A0A0A0A0A0A0A0A0A0A0A0A0A0A0A0A0A0A0A0A0A0A0A0A0A0A0A0A0A0A0A0A0A0A0A0A0A0A0A0A0A0A0A0A0A0A0A0A0A0A0A0A0A,
  0x0A0A0A0A0A0A0A0A0A0A0A0A0A0A0A0A0A0A0A0A0A0A0A0A0A0A0A0A0A0A0A0A0A0A0A0A0A0A0A0A0A0A0A0A0A0A0A0A0A0A0A0A0A0A0A0A0A0A0A0A0A0A0A0A,
  0x0A0A0A0A0A0A0A0A0A0A0A0A0A0A0A0A0A0A0A0A0A0A0A0A0A0A0A0A0A0A0A0A0A0A0A0A0A0A0A0A0A0A0A0A0A0A0A0A0A0A0A0A0A0A0A0A0A0A0A0A0A0A0A0A,
  0x0A0A0A0A0A0A0A0A0A0A0A0A0A0A0A0A0A0A0A0A0A0A0A0A0A0A0A0A0A0A0A0A0C0D0F101214151718191B1C1D1E1E1F1F1F1F1F1E1D1C1B1A181613110E0B0A,
  0x0A0A0A0A0A0A0A0A0A0A0A0A0A0A0A0A0A0A0A0A0A0A0A0A0A0A0A0A0A0A0A0A0A0A0A0A0A0A0A0A0A0A0A0A0D161F28313B444E576164646464646464646464,
  0x6464646464646464646464646464646464646464646464646464646464646464645C554E474039332D27221C18130F0C0A0A0A0A0A0A0A0A0A0A0A0A0A0A0A0A,
  0x0A0A0A0A0C0E1011131517181A1B1C1D1E1E1E1E1E1E1D1D1C1B1918161412100E0C0A0A0A0A0A0A0A0A0A0A0A0A0A0A0A0A0A0A0A0A0A0A0A0A0A0A0A0A0A0A,
  0x0A0A0A0A0A0A0A0B0D10121416181A1C1E1F212223242425252525252424232221201F1D1C1A1917151312100E0D0B0A0A0A0A0A0A0A0A0A0A0A0A0A0A0A0A0A,
  0x0A0A0A0A0A0A0A0A0A0A0A0B0C0D0D0E0F0F10101010100F0F0E0D0C0B0A0A0A0A0A0A0A0A0A0A0A0A0A0A0A0A0A0A0A0A0A0A0A0A0A0A0A0A0A0A0A0A0A0A0A,
  0x0A0A0A0A0A0A0A0A0A0A0A0A0A0A0A0A0A0A0A0A0A0A0A0A0A0A0A0A0A0A0A0A0A0A0A0A0A0A0A0A0A0A0A0A0A0A0A0A0A0A0A0A0A0A0A0A0A0A0A0A0A0A0A0A]

/-- Entries 0xE400 to 0xE7FF (R203). -/
def flickPageE400 : List Nat := [
  0x0A0A0A0A0A0A0A0A0A0A0A0A0A0A0A0A0A0A0A0A0A0A0A0A0A0A0A0A0A0A0A0A0A0A0A0A0A0A0A0A0A0A0A0A0A0A0A0A0A0A0A0A0A0A0A0A0B0D0F111416191C,
  0x1F2226292C3033373B3E4245494C4F5355585B5D5F616263646464646362605E5C5956524E4A45403B353029231C160F0A0A0A0A0A0A0A0A0A0A0A0A0A0A0A0A,
  0x0A0A0A0A0A0A0A0A0A0A0A0A0A0A0A0A0A0A0A0A0A0A0A0A0A0A0A0A0B131A212930363D43494E53585C6063646464646464646464646463605D5955514C4742,
  0x3D37312C26201B15100A0A0A0A0A0A0A0A0A0A0A0A0A0A0A0A0A0A0A0A0A0A0A0A0A0A0A0A0A0A0A0A0A0A0A0A0A0A0A0A0A0C0E101113141516171718181817,
  0x17161615141311100F0E0C0B0A0A0A0A0A0A0A0A0A0A0A0A0A0A0A0A0A0A0A0A0A0A0A0A0B0C0E1012131517191B1D1E20212324252627272828282828272726,
  0x25242321201E1C1B19171513100E0C0A0A0A0A0A0A0A0A0A0A0A0A0A0A0A0A0A0A0A0A0A0A0A0A0A0A0A0A0A0A0A0A0A0B0C0E10111214151617181819191919,
  0x19191918171615141311100E0C0B0A0A0A0A0A0A0A0A0A0A0A0A0A0A0A0A0A0A0A0A0A0A0A0A0A0A0A0A0A0A0A0A0A0A0A0A0A0A0A0A0A0A0A0A0A0A0A0A0A0B,
  0x0C0D0E0F0F1010111111111110100F0F0E0E0D0C0C0B0A0A0A0A0A0A0A0A0A0A0A0A0A0A0A0A0A0A0A0A0A0A0A0A0A0A0A0A0A0A0A0A0A0A0A0A0A0A0A0A0A0A,
  0x0A0A0A0A0A0A0A0A0A0A0A0A0A0A0A0A0A0A0A0A0A0A0A0A0B0D0F1215181B1F23272C30353A40454B50565C6364646464646464646464646464646464646464,
  0x64646464646464646464646464646464646464646464645B524940372E251C130A0A0A0A0A0A0A0A0A0A0A0A0A0A0A0A0A0A0A0A0A0A0A0A0A0A0A0A0A0A0A0A,
  0x0A0A0A0A0A0A0A0A0A0A0A0A0A0A0C0F12141617181919191918171513110E0B0A0A0A0A0A0A0A0A0A0A0A0A0A0A0A0A0A0A0A0A0A0A0A0A0A0A0A0A0A0A0A0A,
  0x0A0A0A0A0A0A0A0A0A0A0A0A0A0A0A0A0A0A0A0A0A0A0A0A0A0A0A0A0A0A0A0A0A0A0A0A0A0A0A0A0A0A0A0A0A0A0A0A0A0A0A0A0A0A0A0A0A0A0A0A0A0A0A0A,
  0x0A0A0A0A0A0A0A0A0A0A0A0A0A0A0A0B0D0E0F10111213141515151616151514141312110F0E0C0A0A0A0A0A0A0A0A0A0A0A0A0A0A0A0A0A0A0A0A0A0A0A0A0A,
  0x0A0A0A0A0A0A0A0A0A0A0A0A0A0A0A0A0A0A0A0A0A0A0A0A0A0A0A0A0A0A0A0C0D0F1011121314141515151515141413131211100F0E0D0C0A0A0A0A0A0A0A0A,
  0x0A0A0A0A0A0A0A0A0A0A0A0A0A0A0A0A0A0A0A0A0A0A0A0A0A0A0B0C0E0F0F1011121313141414151515151514141413121211100F0F0E0D0C0B0A0A0A0A0A0A,
  0x0A0A0A0A0A0A0A0A0A0A0A0A0A0A0A0A0A0A0A0A0A0A0A0A0A0A0A0A0A0A0A0A0A0A0A0A0A0A0A0A0A0A0A0A0A0A0A0A0A0A0A0A0A0A0A0A0A0A0A0A0A0A0A0A]

/-- Entries 0xE800 to 0xEBFF (R203). -/
def flickPageE800 : List Nat := [
  0x0A0A0B0F13181D23282F353C434A5259616464646464646464646464646464646464646464646464646464646464646464646464646464646464646464646464,
  0x64646464646460574D433A31282018100A0A0A0A0A0A0A0A0A0A0A0A0A0A0A0A0A0A0A0A0A0A0A0A0A0A0A0A0A0A0A0A0A0A0A0A0A0A0A0A0A0A0A0A0A0A0A0A,
  0x0A0A0A0A0A0A0A0A0A0A0A0A0A0A0A0A0A0A0A0A0A0A0A0A0A0A0A0A0A0A0A0A0A0A0A0A0A0A0A0A0A0A0A0A0A0A0A0A0A0A0A0A0A0A0A0A0A0A0A0A0A0A0A0A,
  0x0A0A0A0A0A0A0A0A0A0A0A0A0A0A0A0A0A0A0A0A0A0A0A0A0A0A0A0A0A0A0A0A0A0A0A0A0A0A0A0A0A0A0A0A0A0A0A0A0A0A0A0A0A0A0A0A0A0A0A0A0A0A0A0A,
  0x0A0A0A0A0A0A0A0A0A0A0A0A0A0A0A0A0A0A0A0A0A0A0A0A0A0A0A0A0A0A0A0A0A0A0A0A0A0A0A0A0A0A0A0A0A0A0A0A0A0A0A0A0A0A0A0A0A0A0A0A0A0A0A0A,
  0x0A0A0A0A0A0A0A0A0A0A0A0A0A0A0A0A0A0A0A0A0A0A0A0A0A0A0A0A0A0A0A0A0A0A0A0A0A0A0A0A0A0A0A0A0A0A0A0A0A0A0A0A0A0A0A0A0A0A0A0A0A0A0A0A,
  0x0A0A0A0B0B0C0C0C0D0D0D0D0D0C0C0C0B0B0A0A0A0A0A0A0A0A0A0A0A0A0A0A0A0A0A0A0A0A0A0A0A0A0A0A0A0A0A0A0A0A0A0A0A0A0A0A0A0A0A0A0A0A0A0A,
  0x0A0A0A0A0A0A0A0A0A0A0A0A0A0A0A0A0A0A0A0A0A0A0A0A0A0A0A0A0A0A0A0A0A0A0A0A0A0A0A0A0A0A0A0A0A0A0A0A0A10171E262E374049525C6464646464,
  0x64646464646464646464646464646464646464646464646464646464646464646464646464646464646464646464646464615850484039312B241E19140F0B0A,
  0x0A0A0A0A0A0A0A0A0A0A0A0A0A0A0A0A0A0A0A0A0A0A0A0A0B0C0D0E0F0F1010100F0F0E0D0B0A0A0A0A0A0A0A0A0A0A0A0A0A0A0A0A0A0A0A0A0A0A0A0A0A0A,
  0x0A0A0A0A0A0A0A0A0A0A0A0A0A0A0A0A0A0A0A0A0A0A0A0A0A0A0A0A0A0A0A0A0A0A0A0A0A0B0C0D0E0F0F101010100F0F0E0D0C0B0A0A0A0A0A0A0A0A0A0A0A,
  0x0A0A0A0A0A0A0A0A0A0A0A0A0A0A0A0A0A0A0A0A0A0A0A0A0A0A0A0A0A0A0A0A0A0A0A0A0A0A0A0A0A0A0A0A0A0A0A0A0A0A0A0A0A0A0A0A0A0A0A0A0A0A0A0A,
  0x0A0A0A0A0A0A0A0A0A0A0A0A0A0A0A0A0A0A0A0A0A0A0A0A0A0A0A0A0A0A0A0A0A0A0A0A0A0A0A0A0A0A0A0A0A0A0A0A0A0A0A0A0A0A0A0A0A0A0A0A0A0A0A0A,
  0x0A0A0A0A0A0A0A0A0A0A0A0A0A0A0A0A0A0A0A0A0A0A0A0A0A0A0A0A0A0A0A0A0A0A0A0A0A0A0A0A0A0A0A0A0A0A0A0A0A0A0A0A0A0A0A0A0A0A0A0A0A0A0A0A,
  0x0A0A0A0A0A0A0A0A0A0A0A0A0A0A0A0A0A0A0A0A0B0D0E101213151618191B1C1D1E1E1F1F1F1F1F1E1E1D1B1A181614110E0B0A0A0A0A0A0A0A0A0A0A0A0A0A,
  0x0A0A0A0A0A0A0A0A0A0A0A0A0A0A0A0A0A0A0A0A0A0A0A0A0A0A0A0A0A0A0A0A0B141D262F39424C555F64646464646464646464646464646464646464646464]

/-- Entries 0xEC00 to 0xEFFF (R203). -/
def flickPageEC00 : List Nat := [
  0x6464646464646464646464646464646464646464645E564F48413A342E28231D1914100C0A0A0A0A0A0A0A0A0A0A0A0A0A0A0A0A0A0A0A0A0B0D0F1113151618,
  0x191B1C1D1D1E1E1E1E1E1D1D1C1B1A18161513110F0D0A0A0A0A0A0A0A0A0A0A0A0A0A0A0A0A0A0A0A0A0A0A0A0A0A0A0A0A0A0A0A0A0A0A0A0A0A0A0D0F1114,
  0x16181A1C1D1F202223232425252525252524232221201F1E1C1A1917151412100F0D0B0A0A0A0A0A0A0A0A0A0A0A0A0A0A0A0A0A0A0A0A0A0A0A0A0A0A0A0A0B,
  0x0C0C0D0E0F0F0F101010100F0F0E0E0D0B0A0A0A0A0A0A0A0A0A0A0A0A0A0A0A0A0A0A0A0A0A0A0A0A0A0A0A0A0A0A0A0A0A0A0A0A0A0A0A0A0A0A0A0A0A0A0A,
  0x0A0A0A0A0A0A0A0A0A0A0A0A0A0A0A0A0A0A0A0A0A0A0A0A0A0A0A0A0A0A0A0A0A0A0A0A0A0A0A0A0A0A0A0A0A0A0A0A0A0A0A0A0A0A0A0A0A0A0A0A0A0A0A0A,
  0x0A0A0A0A0A0A0A0A0A0A0A0A0A0A0A0A0A0A0A0A0A0A0A0A0A0A0A0A0A0A0A0A0A0A0A0A0A0A0A0A0A0A0A0A0B0D0F111316191B1E2225282C2F33363A3E4145,
  0x484C4F5255585A5C5E606263646464646362615F5C5A57534F4B46413C37312B241E17100A0A0A0A0A0A0A0A0A0A0A0A0A0A0A0A0A0A0A0A0A0A0A0A0A0A0A0A,
  0x0A0A0A0A0A0A0A0A0A0A0A0A0A0A0A0A0A111920272E353B42484D52575B5F62646464646464646464646464615E5A56524D48433E38332D27221C16110B0A0A,
  0x0A0A0A0A0A0A0A0A0A0A0A0A0A0A0A0A0A0A0A0A0A0A0A0A0A0A0A0A0A0A0A0A0A0A0A0A0A0A0B0D0F111314151617171818181717171615141312100F0E0C0B,
  0x0A0A0A0A0A0A0A0A0A0A0A0A0A0A0A0A0A0A0A0A0A0A0A0A0A0C0E0F11131517191A1C1E1F21222425262727282828282828272625242322201F1D1B19171513,
  0x110F0D0B0A0A0A0A0A0A0A0A0A0A0A0A0A0A0A0A0A0A0A0A0A0A0A0A0A0A0A0A0A0A0A0A0A0C0E0F11121315161717181919191919191918171615141312100E,
  0x0D0B0A0A0A0A0A0A0A0A0A0A0A0A0A0A0A0A0A0A0A0A0A0A0A0A0A0A0A0A0A0A0A0A0A0A0A0A0A0A0A0A0A0A0A0A0A0A0A0A0A0B0C0D0E0F0F10101111111111,
  0x1010100F0E0E0D0C0C0B0A0A0A0A0A0A0A0A0A0A0A0A0A0A0A0A0A0A0A0A0A0A0A0A0A0A0A0A0A0A0A0A0A0A0A0A0A0A0A0A0A0A0A0A0A0A0A0A0A0A0A0A0A0A,
  0x0A0A0A0A0A0A0A0A0A0A0A0A0A0C0F1114171B1E22262B2F34393E444A4F555B6164646464646464646464646464646464646464646464646464646464646464,
  0x64646464646464646464645D544B423930271E150C0A0A0A0A0A0A0A0A0A0A0A0A0A0A0A0A0A0A0A0A0A0A0A0A0A0A0A0A0A0A0A0A0A0A0A0A0A0A0A0A0A0A0A,
  0x0A0A0C0F11141617181919191918171614110F0C0A0A0A0A0A0A0A0A0A0A0A0A0A0A0A0A0A0A0A0A0A0A0A0A0A0A0A0A0A0A0A0A0A0A0A0A0A0A0A0A0A0A0A0A]

/-- Entries 0xF000 to 0xF3FF (R203). -/
def flickPageF000 : List Nat := [
  0x0A0A0A0A0A0A0A0A0A0A0A0A0A0A0A0A0A0A0A0A0A0A0A0A0A0A0A0A0A0A0A0A0A0A0A0A0A0A0A0A0A0A0A0A0A0A0A0A0A0A0A0A0A0A0A0A0A0A0A0A0A0A0A0A,
  0x0A0A0A0B0C0E0F10111213141515151616151515141312110F0E0C0A0A0A0A0A0A0A0A0A0A0A0A0A0A0A0A0A0A0A0A0A0A0A0A0A0A0A0A0A0A0A0A0A0A0A0A0A,
  0x0A0A0A0A0A0A0A0A0A0A0A0A0A0A0A0A0A0A0A0B0D0E1011121314141515151515151414131211100F0E0D0C0B0A0A0A0A0A0A0A0A0A0A0A0A0A0A0A0A0A0A0A,
  0x0A0A0A0A0A0A0A0A0A0A0A0A0A0A0B0C0D0E0F101112121314141415151515151414141313121110100F0E0D0C0B0A0A0A0A0A0A0A0A0A0A0A0A0A0A0A0A0A0A,
  0x0A0A0A0A0A0A0A0A0A0A0A0A0A0A0A0A0A0A0A0A0A0A0A0A0A0A0A0A0A0A0A0A0A0A0A0A0A0A0A0A0A0A0A0A0A0A0A0A0A0A0A0A0A0A0A0E13171C22272D343A,
  0x4149505860646464646464646464646464646464646464646464646464646464646464646464646464646464646464646464646464646464646462584F453C33,
  0x2A2119110A0A0A0A0A0A0A0A0A0A0A0A0A0A0A0A0A0A0A0A0A0A0A0A0A0A0A0A0A0A0A0A0A0A0A0A0A0A0A0A0A0A0A0A0A0A0A0A0A0A0A0A0A0A0A0A0A0A0A0A,
  0x0A0A0A0A0A0A0A0A0A0A0A0A0A0A0A0A0A0A0A0A0A0A0A0A0A0A0A0A0A0A0A0A0A0A0A0A0A0A0A0A0A0A0A0A0A0A0A0A0A0A0A0A0A0A0A0A0A0A0A0A0A0A0A0A,
  0x0A0A0A0A0A0A0A0A0A0A0A0A0A0A0A0A0A0A0A0A0A0A0A0A0A0A0A0A0A0A0A0A0A0A0A0A0A0A0A0A0A0A0A0A0A0A0A0A0A0A0A0A0A0A0A0A0A0A0A0A0A0A0A0A,
  0x0A0A0A0A0A0A0A0A0A0A0A0A0A0A0A0A0A0A0A0A0A0A0A0A0A0A0A0A0A0A0A0A0A0A0A0A0A0A0A0A0A0A0A0A0A0A0A0A0A0A0A0A0A0A0A0A0A0A0A0A0A0A0A0A,
  0x0A0A0A0A0A0A0A0A0A0A0A0A0A0A0A0A0A0A0A0A0A0A0A0A0A0A0A0A0A0A0A0A0A0A0A0A0A0A0A0A0A0A0A0A0A0A0A0A0A0A0A0A0A0A0A0B0B0C0C0C0D0D0D0D,
  0x0D0C0C0C0B0B0A0A0A0A0A0A0A0A0A0A0A0A0A0A0A0A0A0A0A0A0A0A0A0A0A0A0A0A0A0A0A0A0A0A0A0A0A0A0A0A0A0A0A0A0A0A0A0A0A0A0A0A0A0A0A0A0A0A,
  0x0A0A0A0A0A0A0A0A0A0A0A0A0A0A0A0A0A0A0A0A0A0A0A0A0A0A0A0A0A0A0A0A0A0A0A0A0A0E151D252D353E47515A6464646464646464646464646464646464,
  0x64646464646464646464646464646464646464646464646464646464646464646464646464635A5249413A332C251F1A15100C0A0A0A0A0A0A0A0A0A0A0A0A0A,
  0x0A0A0A0A0A0A0A0A0A0A0A0A0B0C0D0E0F0F1010100F0F0E0D0C0A0A0A0A0A0A0A0A0A0A0A0A0A0A0A0A0A0A0A0A0A0A0A0A0A0A0A0A0A0A0A0A0A0A0A0A0A0A,
  0x0A0A0A0A0A0A0A0A0A0A0A0A0A0A0A0A0A0A0A0A0A0A0A0A0A0A0C0D0E0F0F101010100F0F0E0E0D0C0B0A0A0A0A0A0A0A0A0A0A0A0A0A0A0A0A0A0A0A0A0A0A]

/-- Entries 0xF400 to 0xF7FF (R203). -/
def flickPageF400 : List Nat := [
  0x0A0A0A0A0A0A0A0A0A0A0A0A0A0A0A0A0A0A0A0A0A0A0A0A0A0A0A0A0A0A0A0A0A0A0A0A0A0A0A0A0A0A0A0A0A0A0A0A0A0A0A0A0A0A0A0A0A0A0A0A0A0A0A0A,
  0x0A0A0A0A0A0A0A0A0A0A0A0A0A0A0A0A0A0A0A0A0A0A0A0A0A0A0A0A0A0A0A0A0A0A0A0A0A0A0A0A0A0A0A0A0A0A0A0A0A0A0A0A0A0A0A0A0A0A0A0A0A0A0A0A,
  0x0A0A0A0A0A0A0A0A0A0A0A0A0A0A0A0A0A0A0A0A0A0A0A0A0A0A0A0A0A0A0A0A0A0A0A0A0A0A0A0A0A0A0A0A0A0A0A0A0A0A0A0A0A0A0A0A0A0A0A0A0A0A0A0A,
  0x0A0A0A0A0A0A0A0A0B0D0E101113151618191A1B1D1D1E1F1F1F1F1F1F1E1D1C1A181614120F0C0A0A0A0A0A0A0A0A0A0A0A0A0A0A0A0A0A0A0A0A0A0A0A0A0A,
  0x0A0A0A0A0A0A0A0A0A0A0A0A0A0A0A0A0A0A0A0A0A121B242E37414A545D64646464646464646464646464646464646464646464646464646464646464646464,
  0x6464646464646464645F585049423C352F29241E1A15110D0A0A0A0A0A0A0A0A0A0A0A0A0A0A0A0A0A0A0A0A0B0D0F1113141618191A1C1C1D1E1E1E1E1E1E1D,
  0x1C1B1A18171513110F0D0B0A0A0A0A0A0A0A0A0A0A0A0A0A0A0A0A0A0A0A0A0A0A0A0A0A0A0A0A0A0A0A0A0A0A0A0A0A0C0F11131517191B1D1F202122232425,
  0x252525252524232322201F1E1C1B1918161412110F0D0C0A0A0A0A0A0A0A0A0A0A0A0A0A0A0A0A0A0A0A0A0A0A0A0A0A0A0A0A0B0B0C0D0E0E0F0F101010100F,
  0x0F0E0E0D0C0A0A0A0A0A0A0A0A0A0A0A0A0A0A0A0A0A0A0A0A0A0A0A0A0A0A0A0A0A0A0A0A0A0A0A0A0A0A0A0A0A0A0A0A0A0A0A0A0A0A0A0A0A0A0A0A0A0A0A,
  0x0A0A0A0A0A0A0A0A0A0A0A0A0A0A0A0A0A0A0A0A0A0A0A0A0A0A0A0A0A0A0A0A0A0A0A0A0A0A0A0A0A0A0A0A0A0A0A0A0A0A0A0A0A0A0A0A0A0A0A0A0A0A0A0A,
  0x0A0A0A0A0A0A0A0A0A0A0A0A0A0A0A0A0A0A0A0A0A0A0A0A0A0A0A0A0A0A0A0A0A0C0E101315181B1E2124282B2F3236393D4144484B4E5154575A5C5E606163,
  0x636464646362615F5D5A5754504C47423D38322C261F18120B0A0A0A0A0A0A0A0A0A0A0A0A0A0A0A0A0A0A0A0A0A0A0A0A0A0A0A0A0A0A0A0A0A0A0A0A0A0A0A,
  0x0A0A0A0A0A10171F262D343A40464C51565A5E62646464646464646464646464625E5B57524E49443F39342E28231D17120D0A0A0A0A0A0A0A0A0A0A0A0A0A0A,
  0x0A0A0A0A0A0A0A0A0A0A0A0A0A0A0A0A0A0A0A0A0A0A0A0A0A0A0B0D0F111214151617171818181817171615141312110F0E0D0B0A0A0A0A0A0A0A0A0A0A0A0A,
  0x0A0A0A0A0A0A0A0A0A0A0A0A0A0C0D0F11131516181A1C1E1F21222324262627282828282828272625242322201F1D1B19171513110F0D0B0A0A0A0A0A0A0A0A,
  0x0A0A0A0A0A0A0A0A0A0A0A0A0A0A0A0A0A0A0A0A0A0A0A0A0A0C0D0F10121314151617181919191919191918181716151312100F0D0B0A0A0A0A0A0A0A0A0A0A]

/-- Entries 0xF800 to 0xFBFF (R203). -/
def flickPageF800 : List Nat := [
  0x0A0A0A0A0A0A0A0A0A0A0A0A0A0A0A0A0A0A0A0A0A0A0A0A0A0A0A0A0A0A0A0A0A0A0A0A0A0A0A0B0C0D0E0F0F101010111111111010100F0F0E0D0D0C0B0A0A,
  0x0A0A0A0A0A0A0A0A0A0A0A0A0A0A0A0A0A0A0A0A0A0A0A0A0A0A0A0A0A0A0A0A0A0A0A0A0A0A0A0A0A0A0A0A0A0A0A0A0A0A0A0A0A0A0A0A0A0A0A0A0A0A0A0A,
  0x0A0C0E1114171A1E21262A2E33383D43484E545A606464646464646464646464646464646464646464646464646464646464646464646464646464646464645F,
  0x564D443B31281F160E0A0A0A0A0A0A0A0A0A0A0A0A0A0A0A0A0A0A0A0A0A0A0A0A0A0A0A0A0A0A0A0A0A0A0A0A0A0A0A0A0A0A0A0A0A0B0E1113151718191919,
  0x1918171614120F0D0A0A0A0A0A0A0A0A0A0A0A0A0A0A0A0A0A0A0A0A0A0A0A0A0A0A0A0A0A0A0A0A0A0A0A0A0A0A0A0A0A0A0A0A0A0A0A0A0A0A0A0A0A0A0A0A,
  0x0A0A0A0A0A0A0A0A0A0A0A0A0A0A0A0A0A0A0A0A0A0A0A0A0A0A0A0A0A0A0A0A0A0A0A0A0A0A0A0A0A0A0A0A0A0A0A0A0A0A0A0A0A0A0A0B0C0D0F1011121314,
  0x141515161615151514131211100E0D0B0A0A0A0A0A0A0A0A0A0A0A0A0A0A0A0A0A0A0A0A0A0A0A0A0A0A0A0A0A0A0A0A0A0A0A0A0A0A0A0A0A0A0A0A0A0A0A0A,
  0x0A0A0A0A0A0A0A0B0D0E1011121314141515151515151414131211100F0E0D0C0B0A0A0A0A0A0A0A0A0A0A0A0A0A0A0A0A0A0A0A0A0A0A0A0A0A0A0A0A0A0A0A,
  0x0A0A0B0C0D0E0F101112121314141415151515151414141313121111100F0E0D0C0B0A0A0A0A0A0A0A0A0A0A0A0A0A0A0A0A0A0A0A0A0A0A0A0A0A0A0A0A0A0A,
  0x0A0A0A0A0A0A0A0A0A0A0A0A0A0A0A0A0A0A0A0A0A0A0A0A0A0A0A0A0A0A0A0A0A0A0A0A0A0A0A0A0A0A0A0E12161B21262C323940474F565E64646464646464,
  0x64646464646464646464646464646464646464646464646464646464646464646464646464646464646464646464645A51473E342C231B130B0A0A0A0A0A0A0A,
  0x0A0A0A0A0A0A0A0A0A0A0A0A0A0A0A0A0A0A0A0A0A0A0A0A0A0A0A0A0A0A0A0A0A0A0A0A0A0A0A0A0A0A0A0A0A0A0A0A0A0A0A0A0A0A0A0A0A0A0A0A0A0A0A0A,
  0x0A0A0A0A0A0A0A0A0A0A0A0A0A0A0A0A0A0A0A0A0A0A0A0A0A0A0A0A0A0A0A0A0A0A0A0A0A0A0A0A0A0A0A0A0A0A0A0A0A0A0A0A0A0A0A0A0A0A0A0A0A0A0A0A,
  0x0A0A0A0A0A0A0A0A0A0A0A0A0A0A0A0A0A0A0A0A0A0A0A0A0A0A0A0A0A0A0A0A0A0A0A0A0A0A0A0A0A0A0A0A0A0A0A0A0A0A0A0A0A0A0A0A0A0A0A0A0A0A0A0A,
  0x0A0A0A0A0A0A0A0A0A0A0A0A0A0A0A0A0A0A0A0A0A0A0A0A0A0A0A0A0A0A0A0A0A0A0A0A0A0A0A0A0A0A0A0A0A0A0A0A0A0A0A0A0A0A0A0A0A0A0A0A0A0A0A0A,
  0x0A0A0A0A0A0A0A0A0A0A0A0A0A0A0A0A0A0A0A0A0A0A0A0A0A0A0A0A0A0A0A0A0A0A0A0A0A0A0A0A0A0A0A0B0B0C0C0C0D0D0D0D0D0C0C0C0B0B0A0A0A0A0A0A]

/-- Entries 0xFC00 to 0xFFFF (R203). -/
def flickPageFC00 : List Nat := [
  0x0A0A0A0A0A0A0A0A0A0A0A0A0A0A0A0A0A0A0A0A0A0A0A0A0A0A0A0A0A0A0A0A0A0A0A0A0A0A0A0A0A0A0A0A0A0A0A0A0A0A0A0A0A0A0A0A0A0A0A0A0A0A0A0A,
  0x0A0A0A0A0A0A0A0A0A0A0A0A0A0A0A0A0A0A0A0A0A0A0A0A0A0D141B232B343C454F586264646464646464646464646464646464646464646464646464646464,
  0x64646464646464646464646464646464646464646464646464645C534B433B342D27211B16110C0A0A0A0A0A0A0A0A0A0A0A0A0A0A0A0A0A0A0A0A0A0A0A0A0A,
  0x0B0C0D0E0F0F1010100F0F0E0D0C0A0A0A0A0A0A0A0A0A0A0A0A0A0A0A0A0A0A0A0A0A0A0A0A0A0A0A0A0A0A0A0A0A0A0A0A0A0A0A0A0A0A0A0A0A0A0A0A0A0A,
  0x0A0A0A0A0A0A0A0A0A0A0A0A0A0A0C0D0E0F0F101010100F0F0E0E0D0C0B0A0A0A0A0A0A0A0A0A0A0A0A0A0A0A0A0A0A0A0A0A0A0A0A0A0A0A0A0A0A0A0A0A0A,
  0x0A0A0A0A0A0A0A0A0A0A0A0A0A0A0A0A0A0A0A0A0A0A0A0A0A0A0A0A0A0A0A0A0A0A0A0A0A0A0A0A0A0A0A0A0A0A0A0A0A0A0A0A0A0A0A0A0A0A0A0A0A0A0A0A,
  0x0A0A0A0A0A0A0A0A0A0A0A0A0A0A0A0A0A0A0A0A0A0A0A0A0A0A0A0A0A0A0A0A0A0A0A0A0A0A0A0A0A0A0A0A0A0A0A0A0A0A0A0A0A0A0A0A0A0A0A0A0A0A0A0A,
  0x0A0A0A0A0A0A0A0A0A0A0A0A0A0A0A0A0A0A0A0A0A0A0A0A0A0A0A0A0A0A0A0A0A0A0A0A0A0A0A0A0A0A0A0A0A0A0A0A0A0A0A0A0A0A0A0A0A0A0A0A0B0C0E0F,
  0x1113141617191A1B1C1D1E1F1F1F1F1F1F1E1D1C1A19171512100D0A0A0A0A0A0A0A0A0A0A0A0A0A0A0A0A0A0A0A0A0A0A0A0A0A0A0A0A0A0A0A0A0A0A0A0A0A,
  0x0A0A0A0A0A0A0A0A0A111A232C353F48525B64646464646464646464646464646464646464646464646464646464646464646464646464646464646464615952,
  0x4B443D36302A251F1A16120E0A0A0A0A0A0A0A0A0A0A0A0A0A0A0A0A0A0A0A0A0B0C0E1012141617191A1B1C1D1E1E1E1E1E1E1D1C1B1A1917151412100D0B0A,
  0x0A0A0A0A0A0A0A0A0A0A0A0A0A0A0A0A0A0A0A0A0A0A0A0A0A0A0A0A0A0A0A0A0A0A0A0A0C0E10131517191B1D1E202122232424252525252524242322211F1E,
  0x1D1B1A18161413110F0E0C0A0A0A0A0A0A0A0A0A0A0A0A0A0A0A0A0A0A0A0A0A0A0A0A0A0A0A0A0A0B0C0D0E0E0F0F10101010100F0F0E0D0C0B0A0A0A0A0A0A,
  0x0A0A0A0A0A0A0A0A0A0A0A0A0A0A0A0A0A0A0A0A0A0A0A0A0A0A0A0A0A0A0A0A0A0A0A0A0A0A0A0A0A0A0A0A0A0A0A0A0A0A0A0A0A0A0A0A0A0A0A0A0A0A0A0A,
  0x0A0A0A0A0A0A0A0A0A0A0A0A0A0A0A0A0A0A0A0A0A0A0A0A0A0A0A0A0A0A0A0A0A0A0A0A0A0A0A0A0A0A0A0A0A0A0A0A0A0A0A0A0A0A0A0A0A0A0A0A0A0A0A0A,
  0x0A0A0A0A0A0A0A0A0A0A0A0A0A0A0A0A0A0A0A0A0A0C0E101215181A1D2024272A2E3135393C4043474A4E515457595C5E606162636464646362615F5D5B5854]

/-- The sixteen pages of part 3 (R203), in index order. -/
def flickPart3 : List (List Nat) :=
  [flickPageC000, flickPageC400, flickPageC800, flickPageCC00, flickPageD000, flickPageD400, flickPageD800, flickPageDC00,
   flickPageE000, flickPageE400, flickPageE800, flickPageEC00, flickPageF000, flickPageF400, flickPageF800, flickPageFC00]

end Sys2Proof.Machine
end

