-- ==== Sys2Proof/Word.lean ====
section
/-! DEFINITION. The words of the FlameRing animation core at the widths of 00_scope.md rule R6. All are unsigned (R8). -/

namespace Sys2Proof

/-- An event word: 18 bits, one event command (30_encoding.md R70). -/
abbrev EventWord := BitVec 18

/-- A proximity value: 16 bits unsigned, larger is farther (30_encoding.md R74). -/
abbrev Prox := BitVec 16

/-- A brightness level: the 4-bit register of 10_state.md R22, legal values 0 to 9. -/
abbrev Level := BitVec 4

/-- A duty percentage: 7 bits, legal values 0 to 100 (10_state.md R28). -/
abbrev Pct := BitVec 7

/-- A duty width in microseconds: 12 bits, values 0 to 2500 (30_encoding.md R81). -/
abbrev Micros := BitVec 12

/-- A wait in milliseconds: the 9 bits of `seq_wait`, legal values 0 to 500 (10_state.md R27). -/
abbrev Millis := BitVec 9

/-- The flicker time index: 16 bits (10_state.md R24). -/
abbrev FlickIndex := BitVec 16

end Sys2Proof
end

