-- ==== Sys2Proof/Config.lean ====
section
/-! DEFINITION. The implementation parameters of 00_scope.md rule R5. A parameter the spec calls *fixed* is a number here.
A parameter the spec calls *open* is an opaque constant: nothing can be proved of its value, so a claim holds for each. -/

namespace Sys2Proof.Config

/-- `FIFO_DEPTH`: capacity of the event FIFO, in words (R5). -/
def fifoDepth : Nat := 4

/-- `TICK_MS`: the tick grid, in milliseconds (R5). -/
def tickMs : Nat := 10

/-- `LEVEL_MAX`: the greatest level (R5). -/
def levelMax : Level := 9

/-- `RESET_LEVEL` (R5). -/
def resetLevel : Level := 5

/-- `PAN_ON_TH`: Standby wakes on a value strictly below it (R5). -/
def panOnTh : Nat := 1500

/-- `PAN_OFF_TH`: PowerOn and PanShake go to Standby on a value strictly above it (R5). -/
def panOffTh : Nat := 3500

/-- `OFF_STEP_MS`: milliseconds per percentage point of `A_OFF` (R5). -/
def offStepMs : Millis := 10

/-- `STBY_STEP_MS`: milliseconds per percentage point of `A_STBY` (R5). -/
def stbyStepMs : Millis := 10

/-- `SHAKE_STEP_MS`: milliseconds per percentage point of `A_SHAKE` (R5). -/
def shakeStepMs : Millis := 5

/-- `LVL_STEP_MS`: milliseconds per percentage point of `A_LEVEL` (R5). -/
def lvlStepMs : Millis := 5

/-- `PAUSE_MS`: the pause that ends `A_STBY` and `A_SHAKE` (R5). -/
def pauseMs : Millis := 500

/-- `FLASH_LO`: where the level-change flash starts (R5). -/
def flashLo : Pct := 50

/-- `FLASH_HI`: the top of the level-change flash (R5). -/
def flashHi : Pct := 100

/-- `MAX_DUTY_MICRO`: the duty width of 100 %, in microseconds (R5). -/
def maxDutyMicro : Nat := 2500

/-- `PWM_PERIOD_US`: the period of the external PWM, in microseconds. Informative: no rule of the block reads it (R5). -/
def pwmPeriodUs : Nat := 10000

/-- `CHANGE_THRESHOLD`: the Proximity Monitor's dead band. Producer side only (R5, 60_exceptions.md R218). -/
def changeThreshold : Nat := 10

/-- `PROX_PERIOD_MS`: the Proximity Monitor's period. Producer side only (R5, 60_exceptions.md R218). -/
def proxPeriodMs : Nat := 50

/-- How far `F_CLK` lies above its least value. Open (R5, 92_eei_decisions.md D3; assumption log 5). -/
opaque fClkAbove : Nat

/-- `F_CLK` in hertz: open, at least 2 kHz (R5, 70_reset_and_hazards.md R257). No rule depends on it (U16). -/
def fClk : Nat := 2000 + fClkAbove

/-- `MAX_RAW`, the sensor's full scale: open, producer side only (R5, 60_exceptions.md R218, D28; assumption log 6). -/
opaque maxRaw : Prox

/-- The Proximity Monitor's initial `last_changed`: open, producer side only (R218, D28; assumption log 6). -/
opaque lastChangedInit : Prox

/-- The magnitude the Proximity Monitor computes from a reading above `MAX_RAW`: the spec states no result there, so it
is a free value of the full scale and the reading (R218; assumption log 7, DESIGN CHOICE). -/
opaque magnitudeAboveFullScale : Prox → Prox → Prox

end Sys2Proof.Config
end

