-- ==== Sys2Proof/Machine/State.lean ====
section
/-! DEFINITION. The state of the block (10_state.md R20 to R29), of the environment at its ports (R35, 60_exceptions.md R225)
and of a run's observation (00_scope.md R11), the state after reset (R38), and the reasons a step can stop. -/

namespace Sys2Proof.Machine

/-- The seven modes (10_state.md R21). Code 7 is never held (R39), so it is no constructor. -/
inductive Mode where
  | powerOff
  | standby
  | powerOn
  | panShake
  | nikomi
  | levelUp
  | levelDown
  deriving DecidableEq, Repr

/-- The animation scripts `seq_anim` can name (30_encoding.md R75). Codes 5 to 7 are never held, so they are no constructors. -/
inductive Anim where
  /-- `A_OFF`. -/
  | off
  /-- `A_STBY`. -/
  | stby
  /-- `A_ON`. -/
  | on
  /-- `A_SHAKE`. -/
  | shake
  /-- `A_LEVEL`. -/
  | level
  deriving DecidableEq, Repr

/-- The two PWM channels (10_state.md R28). -/
inductive Channel where
  | ch0
  | ch1
  deriving DecidableEq, Repr

/-- A record of the duty trace: `(τ, ch, pct)` (00_scope.md R11 (a)). -/
structure DutyRecord where
  tau : Nat
  ch : Channel
  pct : Pct
  deriving DecidableEq, Repr

/-- The mode and level after the millisecond action of strobe `tau` (00_scope.md R11 (b)). -/
structure ModeRecord where
  tau : Nat
  mode : Mode
  level : Level
  deriving DecidableEq, Repr

/-- A word the port accepted, "accepted before `before`" in the sense of R10 (00_scope.md R11 (c)). -/
structure AcceptRecord where
  before : Nat
  word : EventWord
  deriving DecidableEq, Repr

/-- The input ports at one rising edge of `clk` (10_state.md R35). The edge itself is the step. -/
structure PortIn where
  rst : Bool
  msStrobe : Bool
  evValid : Bool
  evData : EventWord
  deriving DecidableEq, Repr

/-- A word that a producer offers from strobe `notBefore` on and holds until it is accepted (30_encoding.md R82,
20_memory.md R57 (e)). -/
structure Offer where
  notBefore : Nat
  word : EventWord
  deriving DecidableEq, Repr

/-- Why the machine stops with a fault: never. The block raises no exception and has no fatal error path
(60_exceptions.md R210), so this type has no constructor. -/
inductive Fault where
  deriving DecidableEq, Repr

/-- Why a step is refused. -/
inductive Refusal where
  /-- Raised by an arm of `exec` for an instruction without a meaning: none is left. Safe: the run stops. -/
  | notModelled (mnemonic : String)
  /-- Raised by `clockEdge` in a state that breaks an invariant of 10_state.md R39, which exists only through register
  widths: 93_implementation_defined.md U9 asks a model to refuse it. Safe: no reachable state is one. -/
  | unreachableState
  /-- Raised by `clockEdge` on a strobe at the edge right after a strobe: the environment broke 10_state.md R41 (6), and
  93_implementation_defined.md U10 asks a model to refuse the run. Safe: the run stops. -/
  | strobeTooClose
  deriving DecidableEq, Repr

/-- The state. The first group is the block's registers, and "no other state exists" in it (10_state.md R20). -/
structure State where
  /-- `mode` (R21). -/
  mode : Mode
  /-- `level` (R22). -/
  level : Level
  /-- `flick_t` (R24). -/
  flickT : FlickIndex
  /-- `fifo[0 .. fifo_count-1]`, oldest first (R25). Its length is `fifo_count`; entries from there on hold no value. -/
  fifo : List EventWord
  /-- `tick_ph` (R26). -/
  tickPh : BitVec 4
  /-- `seq_busy` (R27). -/
  seqBusy : Bool
  /-- `seq_anim` (R27): read only while `seqBusy`. -/
  seqAnim : Anim
  /-- `seq_pc` (R27, R30). -/
  seqPc : BitVec 2
  /-- `seq_inr` (R27). -/
  seqInr : Bool
  /-- `seq_val` (R27). -/
  seqVal : Pct
  /-- `seq_wait` (R27). -/
  seqWait : Millis
  /-- `seq_tgt` (R27). -/
  seqTgt : Pct
  /-- `duty_pct[0]` (R28). -/
  duty0 : Pct
  /-- `duty_pct[1]` (R28). -/
  duty1 : Pct
  /-- `duty_we[0]` (R29). -/
  dutyWe0 : Bool
  /-- `duty_we[1]` (R29). -/
  dutyWe1 : Bool
  /-- The model's own: the number of the next strobe, counted from 0 at reset (00_scope.md R10). -/
  tau : Nat
  /-- The model's own: the duty trace since reset, oldest record first (R11 (a), 41_sequencer.md R141). -/
  dutyTrace : List DutyRecord
  /-- The model's own: mode and level after each millisecond action since reset (R11 (b)). -/
  decisions : List ModeRecord
  /-- The model's own: the words accepted since reset, in order (R11 (c)). -/
  accepted : List AcceptRecord
  /-- The model's own: the input ports at the coming edges, next first (R35, R225). When the list is used up the quiet
  environment of `State.quietPort` drives the ports (assumption log 2). -/
  inputs : List PortIn
  /-- The model's own: words that producers wait to offer while the quiet environment drives the ports, in the order the
  environment merged them (20_memory.md R61, 30_encoding.md R82; assumption log 2). -/
  offers : List Offer
  /-- The model's own: the last edge was a strobe, so that a strobe now breaks R41 (6) (assumption log 3). -/
  lastStrobe : Bool
  deriving DecidableEq, Repr

/-- The machine right after reset (10_state.md R38, 70_reset_and_hazards.md R240): the run begins, its observation is empty
and the environment has nothing to offer. `seqAnim` "holds no value" by R38; the model's value is DESIGN CHOICE
(assumption log 1). -/
def State.reset : State where
  mode := .powerOff
  level := Config.resetLevel
  flickT := 0
  fifo := []
  tickPh := 0
  seqBusy := false
  seqAnim := .off
  seqPc := 0
  seqInr := false
  seqVal := 0
  seqWait := 0
  seqTgt := 0
  duty0 := 0
  duty1 := 0
  dutyWe0 := false
  dutyWe1 := false
  tau := 0
  dutyTrace := []
  decisions := []
  accepted := []
  inputs := []
  offers := []
  lastStrobe := false

end Sys2Proof.Machine
end

