-- ==== Sys2Proof/Machine/Ops.lean ====
section
/-! DEFINITION. The named operations over the block's storage: the event FIFO (20_memory.md R52 to R54), the duty registers
(41_sequencer.md R141) and the phase and strobe counters (10_state.md R26). The block raises no exception and returns from
none (60_exceptions.md R210, R215), so there is no exception entry here. -/

namespace Sys2Proof.Machine

/-- What a step answers. -/
abbrev StepOutcome := Host.Outcome State Fault Refusal

/-- Apply `f` to the next state, where there is one. -/
def mapNext (f : State → State) : StepOutcome → StepOutcome
  | .next s => .next (f s)
  | .fault r => .fault r
  | .refused r => .refused r

/-! ### The event FIFO -/

/-- There is room for a word: `fifo_count < FIFO_DEPTH` (20_memory.md R52). -/
def State.hasRoom (s : State) : Bool := s.fifo.length < Config.fifoDepth

/-- The effect of an accepted push: the word becomes the newest entry (R52), and the observation notes before which strobe
it was accepted (00_scope.md R10, R11 (c)). -/
def State.push (s : State) (w : EventWord) : State :=
  { s with fifo := s.fifo ++ [w], accepted := s.accepted ++ [⟨s.tau, w⟩] }

/-- The FIFO without its oldest word, the rest moved down by one (20_memory.md R53). -/
def State.dropOldest (s : State) : State := { s with fifo := s.fifo.tail }

/-- `FifoTake()`: the oldest word and the state without it, or `none` on an empty FIFO (R53). -/
def State.take (s : State) : Option (EventWord × State) :=
  match s.fifo with
  | [] => none
  | w :: _ => some (w, s.dropOldest)

/-! ### The duty registers -/

/-- `duty_pct[ch]` (10_state.md R28). -/
def State.duty (s : State) : Channel → Pct
  | .ch0 => s.duty0
  | .ch1 => s.duty1

/-- `duty_we[ch]` (R29). -/
def State.dutyWe (s : State) : Channel → Bool
  | .ch0 => s.dutyWe0
  | .ch1 => s.dutyWe1

/-- One channel of `Write`: the register, the trace record, and the strobe that `duty_we[ch]` shows for the cycle after this
action (41_sequencer.md R141). -/
def State.writeChannel (s : State) (ch : Channel) (v : Pct) : State :=
  match ch with
  | .ch0 => { s with duty0 := v, dutyWe0 := true, dutyTrace := s.dutyTrace ++ [⟨s.tau, .ch0, v⟩] }
  | .ch1 => { s with duty1 := v, dutyWe1 := true, dutyTrace := s.dutyTrace ++ [⟨s.tau, .ch1, v⟩] }

/-- `Write(chs, v)`: each channel of the list in order, whatever value it holds (R141). -/
def State.write (s : State) : List Channel → Pct → State
  | [], _ => s
  | ch :: chs, v => (s.writeChannel ch v).write chs v

/-- `BOTH = [0, 1]`: channel 0 before channel 1 (R141, R144). -/
def both : List Channel := [.ch0, .ch1]

/-- The write strobes fall at every edge whose action does not raise them again (10_state.md R29). -/
def State.clearWe (s : State) : State := { s with dutyWe0 := false, dutyWe1 := false }

/-! ### The sequencer registers -/

/-- `SeqStart`'s assignments: `seq_busy <- 1`, `seq_anim <- anim`, `seq_tgt <- T`, `seq_pc <- 0`, `seq_inr <- 0`
(41_sequencer.md R145). -/
def State.beginScript (s : State) (anim : Anim) (T : Pct) : State :=
  { s with seqBusy := true, seqAnim := anim, seqTgt := T, seqPc := 0, seqInr := false }

/-- `seq_busy <- 0` (R146). -/
def State.endScript (s : State) : State := { s with seqBusy := false }

/-- `seq_pc <- seq_pc + 1` (R146). -/
def State.nextPrim (s : State) : State := { s with seqPc := s.seqPc + 1 }

/-- `seq_wait <- d` (R146). -/
def State.setWait (s : State) (d : Millis) : State := { s with seqWait := d }

/-- `seq_inr` and `seq_val` (R146). -/
def State.setRamp (s : State) (inr : Bool) (v : Pct) : State := { s with seqInr := inr, seqVal := v }

/-! ### Mode, level and flicker index -/

/-- `mode <- m` and `level <- l` (40_state_machine.md R101). -/
def State.setModeLevel (s : State) (m : Mode) (l : Level) : State := { s with mode := m, level := l }

/-- `flick_t <- (flick_t + 1) mod 2^16` (42_flicker.md R181). -/
def State.nextFlick (s : State) : State := { s with flickT := s.flickT + 1 }

/-! ### Counters and the observation -/

/-- `tick_ph <- (tick_ph + 1) mod TICK_MS` (10_state.md R40). -/
def State.advancePhase (s : State) : State :=
  { s with tickPh := BitVec.ofNat 4 ((s.tickPh.toNat + 1) % Config.tickMs) }

/-- The end of a millisecond action: its mode and level are observed, and the next strobe has the next number
(00_scope.md R10, R11 (b)). -/
def State.endAction (s : State) : State :=
  { s with decisions := s.decisions ++ [⟨s.tau, s.mode, s.level⟩], tau := s.tau + 1 }

/-! ### The environment -/

/-- Whether the edge was a strobe is remembered for 10_state.md R41 (6). -/
def State.noteStrobe (s : State) (strobe : Bool) : State := { s with lastStrobe := strobe }

/-- The listed input ports of one edge are used up. -/
def State.nextInput (s : State) : State := { s with inputs := s.inputs.tail }

/-- The first waiting offer was accepted. -/
def State.nextOffer (s : State) : State := { s with offers := s.offers.tail }

/-! ### Reset -/

/-- An edge with `rst = 1`: every register takes its reset value and nothing else happens (10_state.md R41 (2),
70_reset_and_hazards.md R240). A new run begins, so its observation is empty and τ restarts (R242; assumption log 4). What
the environment has still to do is its own. -/
def State.resetEdge (s : State) : State :=
  { State.reset with inputs := s.inputs, offers := s.offers }

/-- The invariants of 10_state.md R39. A state that breaks one is refused (93_implementation_defined.md U9). The mode and
animation codes of U9 are excluded by their types. -/
def State.legal (s : State) : Bool :=
  s.level ≤ Config.levelMax && s.fifo.length ≤ Config.fifoDepth && s.duty0 ≤ 100 && s.duty1 ≤ 100
    && (if s.seqBusy then 1 ≤ s.seqWait else s.seqWait == 0)

end Sys2Proof.Machine
end

