-- ==== Sys2Proof/Machine/Flicker.lean ====
section
/-! DEFINITION. The flicker waveform generator (42_flicker.md): the ROM read and the flicker step. -/

namespace Sys2Proof.Machine

/-- The 64 pages of the flicker ROM, in index order (42_flicker.md R186). -/
def flickPages : List (List Nat) := flickPart0 ++ flickPart1 ++ flickPart2 ++ flickPart3

/-- Row `k` of page `p`: the spec's line for the 64 entries from index `1024 p + 64 k` (43_flicker_rom_0.md R200). -/
def flickRow (p k : Nat) : Nat := (flickPages.getD p []).getD k 0

/-- Entry `i` of a row: its `i`-th pair of hexadecimal digits, counted from the left (R200). -/
def rowEntry (row i : Nat) : Nat := (row >>> (8 * (63 - i))) % 256

/-- `FLICK[t]`, a 7-bit read of the ROM (42_flicker.md R186). -/
def flick (t : FlickIndex) : Pct :=
  BitVec.ofNat 7 (rowEntry (flickRow (t.toNat / 1024) (t.toNat / 64 % 16)) (t.toNat % 64))

/-- `FlickerStep()` (42_flicker.md R181): the value is read before the index moves, and the index wraps at `2^16`. -/
def flickerStep (s : State) : State := (s.write both (flick s.flickT)).nextFlick

end Sys2Proof.Machine
end

