-- ==== Sys2Proof/Syntax.lean ====
section
/-! DEFINITION. The event commands, one constructor per row of spec/opcode_table.json (30_encoding.md R80), and the
event-script commands of R82 and R83 that assemble to event words. -/

namespace Sys2Proof

/-- The four button kinds, in the order of their codes (30_encoding.md R73). -/
inductive ButtonKind where
  | power
  | weak
  | strong
  | nikomi
  deriving DecidableEq, Repr

/-- The event commands (00_scope.md R2, 30_encoding.md R80). A button command has no operand: bits 15:2 of its word are
ignored (R77 (b)). The reserved word's 16 payload bits are ignored likewise (R77 (a)). -/
inductive Instr where
  /-- `PRESS POWER` (40_state_machine.md R110). -/
  | pressPower
  /-- `PRESS WEAK` (R111). -/
  | pressWeak
  /-- `PRESS STRONG` (R112). -/
  | pressStrong
  /-- `PRESS NIKOMI` (R113). -/
  | pressNikomi
  /-- `PROXCHG p` (R115). -/
  | proxchg (p : Prox)
  /-- `PROXCUR p` (R116). -/
  | proxcur (p : Prox)
  /-- The reserved word, decoded to `Other` (R117). -/
  | reserved
  deriving DecidableEq, Repr

/-- The commands of the event-script syntax, with the numbers as written in the script (30_encoding.md R82, R83). -/
inductive ScriptCommand where
  /-- `PRESS POWER`, `PRESS WEAK`, `PRESS STRONG` or `PRESS NIKOMI`. -/
  | press (kind : ButtonKind)
  /-- `PROXCHG <n>`. -/
  | proxchg (n : Nat)
  /-- `PROXCUR <n>`. -/
  | proxcur (n : Nat)
  /-- `.word <v>`: any event word, written as is. -/
  | word (v : Nat)
  /-- `PROXBOTH <n>`: the pair of R83. -/
  | proxboth (n : Nat)
  deriving DecidableEq, Repr

/-- One line of an event script: a command and its `@<tau>` prefix, 0 where it has none (30_encoding.md R82). -/
structure ScriptLine where
  /-- The strobe before which the command is first offered. -/
  notBefore : Nat
  /-- The command. -/
  command : ScriptCommand
  deriving DecidableEq, Repr

end Sys2Proof
end

