-- ==== Sys2Proof/WellFormed.lean ====
section
/-! DEFINITION. Which terms of the syntax are well formed, and which words a producer that follows the source sends. -/

namespace Sys2Proof

/-- An instruction is well formed when its operand fits its field. The operand `p` is a 16-bit value by its type
(30_encoding.md R74), so every instruction is: there is no ill-formed one, as R76 and R80 make decoding total. -/
def Instr.wellFormed : Instr → Bool
  | .pressPower => true
  | .pressWeak => true
  | .pressStrong => true
  | .pressNikomi => true
  | .proxchg _ => true
  | .proxcur _ => true
  | .reserved => true

/-- The commands that a producer following the source sends: all but the reserved word (30_encoding.md R77). -/
def Instr.sourceConforming : Instr → Bool
  | .pressPower => true
  | .pressWeak => true
  | .pressStrong => true
  | .pressNikomi => true
  | .proxchg _ => true
  | .proxcur _ => true
  | .reserved => false

/-- The words that a producer following the source sends: no `tag = 11`, and zero in `payload[15:2]` of a button word
(30_encoding.md R73, R77). The block takes every other word as well (60_exceptions.md R212). -/
def EventWord.sourceConforming (w : EventWord) : Bool :=
  let tag := w.extractLsb' 16 2
  tag != 0b11 && (tag != 0b00 || w.extractLsb' 2 14 == 0)

/-- A script command is well formed when its number is in the range of 30_encoding.md R82. -/
def ScriptCommand.wellFormed : ScriptCommand → Bool
  | .press _ => true
  | .proxchg n => n ≤ 65535
  | .proxcur n => n ≤ 65535
  | .word v => v < 2 ^ 18
  | .proxboth n => n ≤ 65535

/-- A script is well formed when every line's command is. -/
def scriptWellFormed (script : List ScriptLine) : Bool := script.all fun l => l.command.wellFormed

end Sys2Proof
end

