-- ==== Sys2Proof/Decode.lean ====
section
/-! DEFINITION. The decoder of event words (30_encoding.md R70 to R80), the encoder (R84) and the assembler of event-script
commands (R82, R83). -/

namespace Sys2Proof

/-- `tag`, bits 17:16 (30_encoding.md R70). -/
def tagOf (w : EventWord) : BitVec 2 := w.extractLsb' 16 2

/-- `payload`, bits 15:0 (R70). -/
def payloadOf (w : EventWord) : BitVec 16 := w.extractLsb' 0 16

/-- `payload[1:0]`, the button-kind field (R73). -/
def kindBits (w : EventWord) : BitVec 2 := w.extractLsb' 0 2

/-- The code of a button kind (R73). -/
def ButtonKind.code : ButtonKind → BitVec 2
  | .power => 0b00
  | .weak => 0b01
  | .strong => 0b10
  | .nikomi => 0b11

/-- `kind_of`: the button kind of a two-bit code (R73). -/
def ButtonKind.ofCode (c : BitVec 2) : ButtonKind :=
  if c = 0b00 then .power
  else if c = 0b01 then .weak
  else if c = 0b10 then .strong
  else .nikomi

/-- The `PRESS` command of a button kind (R80). -/
def Instr.press : ButtonKind → Instr
  | .power => .pressPower
  | .weak => .pressWeak
  | .strong => .pressStrong
  | .nikomi => .pressNikomi

/-- `Decode(w)`, total on the 18-bit words (30_encoding.md R76): a button word's bits 15:2 are ignored, and `tag = 11` is
the reserved word whatever its payload (R77). -/
def decode (w : EventWord) : Instr :=
  if tagOf w = 0b00 then .press (.ofCode (kindBits w))
  else if tagOf w = 0b01 then .proxchg (payloadOf w)
  else if tagOf w = 0b10 then .proxcur (payloadOf w)
  else .reserved

/-- Why a number is no event word. -/
inductive DecodeError where
  /-- The number does not fit the one format's 18 bits (30_encoding.md R70, R78). -/
  | widerThanEventWord
  deriving DecidableEq, Repr

/-- Decode a number: an event word is a number below `2 ^ 18`, and every such word decodes (30_encoding.md R76). -/
def decodeNumber (n : Nat) : Except DecodeError Instr :=
  if n < 2 ^ 18 then .ok (decode (BitVec.ofNat 18 n)) else .error .widerThanEventWord

/-- The instruction the decoder reads from an opcode-table instruction's bits. An event word crosses the port as one
parallel word (20_memory.md R51), so there are no bytes to lay out. Bits from `nbits` up are zero. -/
def decodeTableWord (nbits w : Nat) : Option Instr :=
  match decodeNumber (w % 2 ^ nbits) with
  | .ok i => some i
  | .error _ => none

/-- `{tag, payload}` (R70, with the concatenation of 00_scope.md R8). -/
def eventWord (tag : BitVec 2) (payload : BitVec 16) : EventWord := tag ++ payload

/-- The word of each mnemonic (30_encoding.md R84): ignored bits are written as zero (R73). For the reserved word, which R84
does not list, the word with a zero payload. -/
def encode : Instr → EventWord
  | .pressPower => eventWord 0b00 (ButtonKind.power.code.setWidth 16)
  | .pressWeak => eventWord 0b00 (ButtonKind.weak.code.setWidth 16)
  | .pressStrong => eventWord 0b00 (ButtonKind.strong.code.setWidth 16)
  | .pressNikomi => eventWord 0b00 (ButtonKind.nikomi.code.setWidth 16)
  | .proxchg p => eventWord 0b01 p
  | .proxcur p => eventWord 0b10 p
  | .reserved => eventWord 0b11 0

/-- The words a script command assembles to (30_encoding.md R82, R84); `PROXBOTH` expands to the pair of R83. -/
def assemble : ScriptCommand → List EventWord
  | .press k => [encode (.press k)]
  | .proxchg n => [encode (.proxchg (BitVec.ofNat 16 n))]
  | .proxcur n => [encode (.proxcur (BitVec.ofNat 16 n))]
  | .word v => [BitVec.ofNat 18 v]
  | .proxboth n => [encode (.proxcur (BitVec.ofNat 16 n)), encode (.proxchg (BitVec.ofNat 16 n))]

/-- A row of the opcode map: a word `w` selects it when `w &&& mask = bits` (30_encoding.md R80). -/
structure OpcodeRow where
  /-- The row's mnemonic, as spec/opcode_table.json spells it. -/
  mnemonic : String
  /-- `match`. -/
  bits : EventWord
  /-- `mask`. -/
  mask : EventWord
  deriving DecidableEq, Repr

/-- The complete opcode map (30_encoding.md R80). -/
def opcodeMap : List OpcodeRow := [
  ⟨"PRESS_POWER", 0x00000, 0x30003⟩,
  ⟨"PRESS_WEAK", 0x00001, 0x30003⟩,
  ⟨"PRESS_STRONG", 0x00002, 0x30003⟩,
  ⟨"PRESS_NIKOMI", 0x00003, 0x30003⟩,
  ⟨"PROXCHG", 0x10000, 0x30000⟩,
  ⟨"PROXCUR", 0x20000, 0x30000⟩,
  ⟨"reserved__Other", 0x30000, 0x30000⟩]

/-- A word selects a row (R80). -/
def OpcodeRow.selectedBy (r : OpcodeRow) (w : EventWord) : Bool := w &&& r.mask == r.bits

/-- The opcode-map mnemonic of an instruction (R80). -/
def Instr.mnemonic : Instr → String
  | .pressPower => "PRESS_POWER"
  | .pressWeak => "PRESS_WEAK"
  | .pressStrong => "PRESS_STRONG"
  | .pressNikomi => "PRESS_NIKOMI"
  | .proxchg _ => "PROXCHG"
  | .proxcur _ => "PROXCUR"
  | .reserved => "reserved__Other"

end Sys2Proof
end

