-- ==== Sys2Proof/Machine/Operands.lean ====
section
/-! DEFINITION. Operand forms: the event values (30_encoding.md R76), the target of a level (10_state.md R23), the threshold
tests on a proximity value (40_state_machine.md R118), the duty width (41_sequencer.md R142), and the register codes. -/

namespace Sys2Proof.Machine

/-- The event value a tick applies (30_encoding.md R76): `none` is the empty tick, which has no word. -/
inductive Event where
  | none
  | button (k : ButtonKind)
  | changed (p : Prox)
  | current (p : Prox)
  | other
  deriving DecidableEq, Repr

/-- The event value of a decoded word (R76, R79). -/
def eventOf : Instr → Event
  | .pressPower => .button .power
  | .pressWeak => .button .weak
  | .pressStrong => .button .strong
  | .pressNikomi => .button .nikomi
  | .proxchg p => .changed p
  | .proxcur p => .current p
  | .reserved => .other

/-- `T(level) = (level + 1) * 10` (10_state.md R23). Exact for the legal levels (40_state_machine.md R118). -/
def target (l : Level) : Pct := BitVec.ofNat 7 ((l.toNat + 1) * 10)

/-- `p < PAN_ON_TH`, unsigned (R118). -/
def isNear (p : Prox) : Bool := p.toNat < Config.panOnTh

/-- `p > PAN_OFF_TH`, unsigned (R118). -/
def isFar (p : Prox) : Bool := Config.panOffTh < p.toNat

/-- `duty_us = MAX_DUTY_MICRO * duty_pct / 100` (41_sequencer.md R142). -/
def dutyUs (v : Pct) : Micros := BitVec.ofNat 12 (Config.maxDutyMicro * v.toNat / 100)

/-- The code of a mode, as `st_mode` shows it (30_encoding.md R71). -/
def Mode.code : Mode → BitVec 3
  | .powerOff => 0
  | .standby => 1
  | .powerOn => 2
  | .panShake => 3
  | .nikomi => 4
  | .levelUp => 5
  | .levelDown => 6

/-- The code of an animation script in `seq_anim` (30_encoding.md R75). -/
def Anim.code : Anim → BitVec 3
  | .off => 0
  | .stby => 1
  | .on => 2
  | .shake => 3
  | .level => 4

/-- The number of a channel (10_state.md R28). -/
def Channel.index : Channel → Nat
  | .ch0 => 0
  | .ch1 => 1

end Sys2Proof.Machine
end

