-- ==== Sys2Proof/Machine/Sequencer.lean ====
section
/-! DEFINITION. The PWM duty-cycle sequencer (41_sequencer.md): primitives, the five scripts, `SeqStart`, `SeqRun`, and the
sequencer's share of a millisecond action. -/

namespace Sys2Proof.Machine

/-- The primitives of a script (R143). -/
inductive Prim where
  /-- `SET(chs, v)`. -/
  | set (chs : List Channel) (v : Pct)
  /-- `RAMP(chs, a, b, s)`, one write each `step` milliseconds. -/
  | ramp (chs : List Channel) (a b : Pct) (step : Millis)
  /-- `PAUSE(d)`. -/
  | pause (d : Millis)
  deriving DecidableEq, Repr

/-- `Script(anim, T)` (R144, R150 to R154). -/
def script (anim : Anim) (T : Pct) : List Prim :=
  match anim with
  | .off => [.ramp both T 0 Config.offStepMs, .set both 0]
  | .stby => [.ramp both 0 T Config.stbyStepMs, .ramp both T 0 Config.stbyStepMs, .pause Config.pauseMs]
  | .on => [.set both T]
  | .shake => [.ramp both 0 T Config.shakeStepMs, .ramp both 0 T Config.shakeStepMs, .pause Config.pauseMs]
  | .level =>
    [.set [.ch1] T, .ramp [.ch0] Config.flashLo Config.flashHi Config.lvlStepMs,
      .ramp [.ch0] Config.flashHi T Config.lvlStepMs]

/-- The value a RAMP writes now: `seq_val` once the ramp has begun, its start value before (R146). -/
def rampNow (a : Pct) (s : State) : Pct := if s.seqInr then s.seqVal else a

/-- After a RAMP from `a` to `b` has written `v`: the step pointer moves on at the ramp's last value, else `seq_val` moves by
one towards it (R146). -/
def rampMove (a b v : Pct) (s : State) : State :=
  if v = b then (s.setRamp false v).nextPrim else s.setRamp true (if b > a then v + 1 else v - 1)

/-- The RAMP case of `SeqRun` (R146): begin the ramp if it has not begun, write, wait `step`, move. -/
def rampStep (chs : List Channel) (a b : Pct) (step : Millis) (s : State) : State :=
  let v := rampNow a s
  rampMove a b v (((s.setRamp true v).write chs v).setWait step)

/-- The loop of `SeqRun` over the rest of the script (R146): a SET goes on at the same strobe, a PAUSE and a RAMP write wait,
and the end of the script clears `seq_busy`. -/
def seqRunFrom : List Prim → State → State
  | [], s => s.endScript
  | .set chs v :: rest, s => seqRunFrom rest (s.write chs v).nextPrim
  | .pause d :: _, s => (s.setWait d).nextPrim
  | .ramp chs a b step :: _, s => rampStep chs a b step s

/-- `SeqRun()` (R146): the loop from the primitive at `seq_pc`. -/
def seqRun (s : State) : State := seqRunFrom ((script s.seqAnim s.seqTgt).drop s.seqPc.toNat) s

/-- `SeqStart(anim, T)` (R145). -/
def seqStart (anim : Anim) (T : Pct) (s : State) : State := seqRun (s.beginScript anim T)

/-- The sequencer's share of a millisecond action: while it is busy it counts one millisecond, and runs when the wait is
over (10_state.md R40). -/
def seqAdvance (s : State) : State :=
  if s.seqBusy then
    if s.seqWait - 1 = 0 then seqRun (s.setWait (s.seqWait - 1)) else s.setWait (s.seqWait - 1)
  else s

end Sys2Proof.Machine
end

