-- ==== Sys2Proof/Machine/StateMachine.lean ====
section
/-! DEFINITION. The transition function (40_state_machine.md R102) and the part of the tick that follows the take (R101). -/

namespace Sys2Proof.Machine

/-- The rows that PowerOn and Nikomi share for a press of Weak (R102, R111). -/
def weakFrom (l : Level) : Mode × Level := if 0 < l then (.levelDown, l - 1) else (.powerOn, l)

/-- The rows that PowerOn and Nikomi share for a press of Strong (R102, R112). -/
def strongFrom (l : Level) : Mode × Level := if l < Config.levelMax then (.levelUp, l + 1) else (.powerOn, l)

/-- `Next(PowerOff, L, ev)` (R102). -/
def nextPowerOff (l : Level) : Event → Mode × Level
  | .button .power => (.standby, l)
  | _ => (.powerOff, l)

/-- `Next(Standby, L, ev)` (R102). -/
def nextStandby (l : Level) : Event → Mode × Level
  | .button .power => (.powerOff, l)
  | .changed p => if isNear p then (.powerOn, l) else (.standby, l)
  | .current p => if isNear p then (.powerOn, l) else (.standby, l)
  | _ => (.standby, l)

/-- `Next(PowerOn, L, ev)` (R102). -/
def nextPowerOn (l : Level) : Event → Mode × Level
  | .button .power => (.powerOff, l)
  | .button .weak => weakFrom l
  | .button .strong => strongFrom l
  | .button .nikomi => (.nikomi, l)
  | .changed p => if isFar p then (.standby, l) else (.panShake, l)
  | _ => (.powerOn, l)

/-- `Next(Nikomi, L, ev)` (R102). -/
def nextNikomi (l : Level) : Event → Mode × Level
  | .button .power => (.powerOff, l)
  | .button .weak => weakFrom l
  | .button .strong => strongFrom l
  | .changed p => if isFar p then (.nikomi, l) else (.panShake, l)
  | _ => (.nikomi, l)

/-- `Next(PanShake, L, ev)` (R102). -/
def nextPanShake (l : Level) : Event → Mode × Level
  | .button .power => (.powerOff, l)
  | .changed p => if isFar p then (.standby, l) else (.powerOn, l)
  | _ => (.powerOn, l)

/-- `Next(m, L, ev)` (R102). LevelUp and LevelDown go to PowerOn on any event and on none. -/
def nextModeLevel (m : Mode) (l : Level) (ev : Event) : Mode × Level :=
  match m with
  | .powerOff => nextPowerOff l ev
  | .standby => nextStandby l ev
  | .powerOn => nextPowerOn l ev
  | .panShake => nextPanShake l ev
  | .nikomi => nextNikomi l ev
  | .levelUp => (.powerOn, l)
  | .levelDown => (.powerOn, l)

/-- `AnimFor` (R105). Nikomi has no mode-entry animation. -/
def animFor : Mode → Option Anim
  | .powerOff => some .off
  | .standby => some .stby
  | .powerOn => some .on
  | .panShake => some .shake
  | .nikomi => none
  | .levelUp => some .level
  | .levelDown => some .level

/-- The output action of a tick whose old mode was `old`, in the state with the new mode and level (R101, R104): one flicker
step in Nikomi, else the mode-entry animation if the mode changed, with the target of the new level. -/
def outputAction (old : Mode) (s : State) : State :=
  match animFor s.mode with
  | none => flickerStep s
  | some anim => if s.mode = old then s else seqStart anim (target s.level) s

/-- `Tick()` from its transition on (R101): the mode and level are written, then the output action happens. -/
def applyEvent (ev : Event) (s : State) : State :=
  let r := nextModeLevel s.mode s.level ev
  outputAction s.mode (s.setModeLevel r.1 r.2)

end Sys2Proof.Machine
end

