-- ==== Sys2Proof/Machine/Buttons.lean ====
section
/-! DEFINITION. The meanings of the four button commands. Each is the tick's transition and output action, once the word has
been taken (40_state_machine.md R101, R110 to R113). None raises an exception. -/

namespace Sys2Proof.Machine

/-- `PRESS POWER` (R110). -/
def execPressPower (s : State) : StepOutcome := .next (applyEvent (.button .power) s)

/-- `PRESS WEAK` (R111). -/
def execPressWeak (s : State) : StepOutcome := .next (applyEvent (.button .weak) s)

/-- `PRESS STRONG` (R112). -/
def execPressStrong (s : State) : StepOutcome := .next (applyEvent (.button .strong) s)

/-- `PRESS NIKOMI` (R113). -/
def execPressNikomi (s : State) : StepOutcome := .next (applyEvent (.button .nikomi) s)

end Sys2Proof.Machine
end

