-- ==== Sys2Proof/Machine/Proximity.lean ====
section
/-! DEFINITION. The meanings of the two proximity commands and of the reserved word, and the empty tick, which no word starts
(40_state_machine.md R114 to R117). None raises an exception. -/

namespace Sys2Proof.Machine

/-- `PROXCHG p` (R115). -/
def execProxchg (p : Prox) (s : State) : StepOutcome := .next (applyEvent (.changed p) s)

/-- `PROXCUR p` (R116). -/
def execProxcur (p : Prox) (s : State) : StepOutcome := .next (applyEvent (.current p) s)

/-- The reserved word, `Other` (R117). -/
def execReserved (s : State) : StepOutcome := .next (applyEvent .other s)

/-- The empty tick: `FifoTake()` returned `None` (R114). -/
def emptyTick (s : State) : StepOutcome := .next (applyEvent .none s)

end Sys2Proof.Machine
end

