-- ==== Sys2Proof/Machine/Dispatch.lean ====
section
/-! DEFINITION. One arm per event command. `exec i s` is the tick of 40_state_machine.md R101 after its take: `s` is the
state of the millisecond action once `FifoTake()` has removed the word that decodes to `i`. -/

namespace Sys2Proof.Machine

def exec (i : Instr) (s : State) : Host.Outcome State Fault Refusal :=
  match i with
  | .pressPower => Sys2Proof.Machine.execPressPower s
  | .pressWeak => Sys2Proof.Machine.execPressWeak s
  | .pressStrong => Sys2Proof.Machine.execPressStrong s
  | .pressNikomi => Sys2Proof.Machine.execPressNikomi s
  | .proxchg p => Sys2Proof.Machine.execProxchg p s
  | .proxcur p => Sys2Proof.Machine.execProxcur p s
  | .reserved => Sys2Proof.Machine.execReserved s

end Sys2Proof.Machine
end

