-- ==== Sys2Proof/Machine/Flags.lean ====
section
/-! DEFINITION. The three derived status flags (10_state.md R31) and the output ports (R36, R37). The block has no condition
code, and no event command writes a flag. -/

namespace Sys2Proof.Machine

/-- `busy = seq_busy` (R31). -/
def State.busy (s : State) : Bool := s.seqBusy

/-- `fifo_count`, 3 bits (R25). -/
def State.fifoCount (s : State) : BitVec 3 := BitVec.ofNat 3 s.fifo.length

/-- `fifo_empty` (R31). -/
def State.fifoEmpty (s : State) : Bool := s.fifo.length == 0

/-- `fifo_full` (R31). -/
def State.fifoFull (s : State) : Bool := s.fifo.length == Config.fifoDepth

/-- A tick boundary: the action starts with `tick_ph = 0` (R26). -/
def State.atBoundary (s : State) : Bool := s.tickPh == 0

/-- `ev_ready = (rst == 0) and (fifo_count < FIFO_DEPTH)`, from the registers as they stand before the edge
(20_memory.md R52, R54). -/
def State.evReady (s : State) (rst : Bool) : Bool := !rst && s.hasRoom

/-- The output ports (10_state.md R36, R37). -/
structure PortOut where
  evReady : Bool
  dutyPct0 : Pct
  dutyPct1 : Pct
  dutyUs0 : Micros
  dutyUs1 : Micros
  dutyWe : BitVec 2
  stMode : BitVec 3
  stLevel : Level
  stBusy : Bool
  stFifoCount : BitVec 3
  deriving DecidableEq, Repr

/-- What the output ports show after an edge, while `rst` is driven as given (R36, R37, R41 (5)). Bit `ch` of `duty_we` is
channel `ch`'s strobe. Reading a port has no effect (20_memory.md R57 (d)). -/
def State.portOut (s : State) (rst : Bool) : PortOut where
  evReady := s.evReady rst
  dutyPct0 := s.duty0
  dutyPct1 := s.duty1
  dutyUs0 := dutyUs s.duty0
  dutyUs1 := dutyUs s.duty1
  dutyWe := BitVec.ofBool s.dutyWe1 ++ BitVec.ofBool s.dutyWe0
  stMode := s.mode.code
  stLevel := s.level
  stBusy := s.busy
  stFifoCount := s.fifoCount

end Sys2Proof.Machine
end

