-- ==== Sys2Proof/Machine/Clock.lean ====
section
/-! DEFINITION. The tick, the millisecond action and the clock edge (40_state_machine.md R101, 10_state.md R40, R41), and the
environment that drives the input ports (R35, 60_exceptions.md R216, R225). -/

namespace Sys2Proof.Machine

/-- `Tick()` (R101): take at most one word, decode it and execute it, or take the empty tick. -/
def tick (s : State) : StepOutcome :=
  match s.take with
  | none => emptyTick s
  | some (w, rest) => exec (decode w) rest

/-- The state in which a millisecond action decides whether to tick: the phase has advanced and the sequencer has had its
share (10_state.md R40). -/
def preTick (s : State) : State := seqAdvance s.advancePhase

/-- `MsAction()` (10_state.md R40): a tick is taken when the action started on a boundary and the sequencer is idle, which it
may have become in this very action. -/
def msAction (s : State) : StepOutcome :=
  mapNext State.endAction
    (if s.atBoundary && !(preTick s).seqBusy then tick (preTick s) else .next (preTick s))

/-- The push at an edge, after the take of the action at the same edge: accepted if the port was ready before the edge
(20_memory.md R52, R54). -/
def acceptPush (ready : Bool) (p : PortIn) (s : State) : State :=
  if ready && p.evValid then s.push p.evData else s

/-- A rising edge of `clk` with the given input ports (10_state.md R41). A reset edge does nothing else. At any other edge the
write strobes of the last action fall (R29), a strobe applies the millisecond action, and then a push may be accepted. -/
def clockEdge (p : PortIn) (s : State) : StepOutcome :=
  if p.rst then .next s.resetEdge
  else if !s.legal then .refused .unreachableState
  else if p.msStrobe then
    if s.lastStrobe then .refused .strobeTooClose
    else mapNext (fun t => acceptPush (s.evReady p.rst) p (t.noteStrobe true)) (msAction s.clearWe)
  else .next (acceptPush (s.evReady p.rst) p (s.clearWe.noteStrobe false))

/-! ### The environment -/

/-- The word a producer offers now, while the quiet environment drives the ports: the first waiting offer, from the strobe it
names on (30_encoding.md R82). -/
def State.dueOffer (s : State) : Option EventWord :=
  match s.offers with
  | [] => none
  | o :: _ => if o.notBefore ≤ s.tau then some o.word else none

/-- The input ports the quiet environment drives (assumption log 2): `rst` is low; the first due offer is held on the port
until it is accepted (20_memory.md R57 (e)); the time base gives its strobe as soon as R41 (6) allows and every due offer that
fits has been accepted. -/
def State.quietPort (s : State) : PortIn where
  rst := false
  msStrobe := !s.lastStrobe && !(s.dueOffer.isSome && s.hasRoom)
  evValid := s.dueOffer.isSome
  evData := s.dueOffer.getD 0

/-- The input ports at the next edge, and the state once the environment has moved on: the next listed edge, or, when none is
listed, the quiet environment's, which is done with an offer once it is accepted. -/
def nextPort (s : State) : PortIn × State :=
  match s.inputs with
  | p :: _ => (p, s.nextInput)
  | [] => (s.quietPort, if s.dueOffer.isSome && s.hasRoom then s.nextOffer else s)

/-- The input ports of an edge with a strobe and nothing else. -/
def strobeEdge : PortIn where
  rst := false
  msStrobe := true
  evValid := false
  evData := 0

end Sys2Proof.Machine
end

