-- ==== Sys2Proof/Machine/Step.lean ====
section
/-! DEFINITION. One step: one rising edge of `clk` (10_state.md R41), with the input ports the environment drives. -/

namespace Sys2Proof.Machine

/-- One rising edge of `clk`. -/
def step (s : State) : Host.Outcome State Fault Refusal := clockEdge (nextPort s).1 (nextPort s).2

/-- `s` with an event word where the next tick takes it, `fifo[0]`, and with that tick due at the very next step: the block is
at a tick boundary with the sequencer idle, and the environment's next edge is a strobe. It stands for a word that a producer
offered and the port accepted before this strobe (assumption log 8). -/
def State.withFetchWord (s : State) (nbits w : Nat) : State :=
  { s with
    fifo := BitVec.ofNat 18 (w % 2 ^ nbits) :: s.fifo.tail
    tickPh := 0
    seqBusy := false
    seqWait := 0
    inputs := strobeEdge :: s.inputs
    lastStrobe := false }

end Sys2Proof.Machine
end

