-- ==== Sys2Proof/Machine/Producers.lean ====
section
/-! DEFINITION. The event producers' published behaviour, an environment contract outside the block (00_scope.md R4 (e)):
event scripts (30_encoding.md R82), the Button Monitor (60_exceptions.md R217) and the Proximity Monitor (R218). No step of
the block reads these: it takes any sequence of words at any times. -/

namespace Sys2Proof.Machine

/-- The offers of a script's one producer, in text order; the words of one line carry its `@` time (30_encoding.md R82). -/
def scriptOffers (script : List ScriptLine) : List Offer :=
  script.flatMap fun l => (assemble l.command).map fun w => ⟨l.notBefore, w⟩

/-- `s` with a script's producer at the port: its offers come after the ones already waiting. -/
def State.withScript (s : State) (lines : List ScriptLine) : State := { s with offers := s.offers ++ scriptOffers lines }

/-- What a Button Monitor offers for one falling edge on its input (60_exceptions.md R217): there is no debounce. -/
def buttonMonitorOffer (k : ButtonKind) : EventWord := encode (.press k)

/-- The distance-like magnitude `MAX_RAW - raw` (R218). The spec states no result for `raw` above `MAX_RAW`: a free value
there (assumption log 7). -/
def magnitude (raw : Prox) : Prox :=
  if raw ≤ Config.maxRaw then Config.maxRaw - raw else Config.magnitudeAboveFullScale Config.maxRaw raw

/-- `|m - last_changed| > CHANGE_THRESHOLD` (R218). -/
def movedBeyondThreshold (m lastChanged : Prox) : Bool :=
  Config.changeThreshold < Int.natAbs ((m.toNat : Int) - lastChanged.toNat)

/-- One poll of the Proximity Monitor, every `PROX_PERIOD_MS`: the words it offers in order, and its `last_changed` after it
(R218). A failed read, `none`, publishes nothing. -/
def proximityPoll (reading : Option Prox) (lastChanged : Prox) : List EventWord × Prox :=
  match reading with
  | none => ([], lastChanged)
  | some raw =>
    let m := magnitude raw
    if movedBeyondThreshold m lastChanged then ([encode (.proxcur m), encode (.proxchg m)], m)
    else ([encode (.proxcur m)], lastChanged)

end Sys2Proof.Machine
end

