-- ==== Sys2Proof/Safety.lean ====
section
/-! DEFINITION. The terms that claims are made in: the invariant of a run, what a list of duty writes does to the outputs, the
timeline a script stands for (41_sequencer.md R143), the tabulated transition function (40_state_machine.md R103), and the
flicker waveform over the reals (42_flicker.md R182). No step reads a definition of this file. -/

namespace Sys2Proof.Machine

/-! ### Duty writes -/

/-- What a channel shows after the writes `recs`, if it showed `v` before them (41_sequencer.md R141, R147). -/
def lastPct (recs : List DutyRecord) (ch : Channel) (v : Pct) : Pct :=
  recs.foldl (fun v r => if r.ch = ch then r.pct else v) v

/-- From `s` to `t` exactly the writes `recs` happened: the trace has them at its end in order, each channel shows its last one
or what it showed, and the write strobe of each channel written is up (R141, 10_state.md R28, R29). -/
def WritesApplied (recs : List DutyRecord) (s t : State) : Prop :=
  t.dutyTrace = s.dutyTrace ++ recs
    ∧ t.duty0 = lastPct recs .ch0 s.duty0
    ∧ t.duty1 = lastPct recs .ch1 s.duty1
    ∧ t.dutyWe0 = (s.dutyWe0 || recs.any fun r => r.ch = .ch0)
    ∧ t.dutyWe1 = (s.dutyWe1 || recs.any fun r => r.ch = .ch1)

/-! ### What a script stands for -/

/-- `|a - b|`. -/
def distance (a b : Pct) : Nat := (a.toNat - b.toNat) + (b.toNat - a.toNat)

/-- `a + k * sign(b - a)`, the value of write `k` of a ramp (41_sequencer.md R143). -/
def rampValue (a b : Pct) (k : Nat) : Pct :=
  if a ≤ b then BitVec.ofNat 7 (a.toNat + k) else BitVec.ofNat 7 (a.toNat - k)

/-- How long a primitive takes, in milliseconds (R143). -/
def Prim.duration : Prim → Nat
  | .set _ _ => 0
  | .ramp _ a b step => (distance a b + 1) * step.toNat
  | .pause d => d.toNat

/-- The writes of a primitive that begins at strobe `start` (R143). -/
def Prim.writes (start : Nat) : Prim → List DutyRecord
  | .set chs v => chs.map fun ch => ⟨start, ch, v⟩
  | .ramp chs a b step =>
    (List.range (distance a b + 1)).flatMap fun k => chs.map fun ch => ⟨start + k * step.toNat, ch, rampValue a b k⟩
  | .pause _ => []

/-- How long a script takes. -/
def scriptDuration : List Prim → Nat
  | [] => 0
  | p :: ps => p.duration + scriptDuration ps

/-- The writes of a script that begins at strobe `start`: each primitive begins where the one before it ended (R143). -/
def timeline (start : Nat) : List Prim → List DutyRecord
  | [] => []
  | p :: ps => p.writes start ++ timeline (start + p.duration) ps

/-- The writes of a timeline up to and including strobe `tau`. -/
def upTo (tau : Nat) (recs : List DutyRecord) : List DutyRecord := recs.filter fun r => r.tau ≤ tau

/-- `n` millisecond actions in a row, without pushes between them. -/
def msActions : Nat → State → StepOutcome
  | 0, s => .next s
  | n + 1, s =>
    match msAction s with
    | .next t => msActions n t
    | .fault r => .fault r
    | .refused r => .refused r

/-! ### The sequencer's position -/

/-- The primitives of the running script from `seq_pc` on. -/
def State.restOfScript (s : State) : List Prim := (script s.seqAnim s.seqTgt).drop s.seqPc.toNat

/-- What the sequencer has still to do once the present wait is over: the rest of the script, with a ramp already begun cut to
the values it has yet to write. -/
def State.todo (s : State) : List Prim :=
  match s.restOfScript with
  | .ramp chs a b step :: ps => .ramp chs (rampNow a s) b step :: ps
  | ps => ps

/-- Milliseconds until the running animation ends, 0 while the sequencer is idle. -/
def State.remaining (s : State) : Nat := if s.seqBusy then s.seqWait.toNat + scriptDuration s.todo else 0

/-- `v` is a value that a ramp from `a` to `b` writes after its first. -/
def insideRamp (a b v : Pct) : Bool := if a < b then a < v && v ≤ b else b ≤ v && v < a

/-- The sequencer's position is one its script has: `seq_pc` is at a primitive or at the end, and `seq_inr` holds only at a
ramp, with `seq_val` at one of the values it writes after its first (41_sequencer.md R146, R155). -/
def State.positionOk (s : State) : Bool :=
  s.seqPc.toNat ≤ (script s.seqAnim s.seqTgt).length
    && (match s.restOfScript with
        | .ramp _ a b _ :: _ => !s.seqInr || insideRamp a b s.seqVal
        | _ => !s.seqInr)

/-- A busy sequencer with a wait to go, at a position of its script. -/
def State.playing (s : State) : Bool := s.seqBusy && 1 ≤ s.seqWait && s.positionOk

/-- Between two actions, the writes that the running animation has still to make: what is to do begins at the strobe whose
action ends the present wait (41_sequencer.md R143, R146). -/
def State.toCome (s : State) : List DutyRecord := timeline (s.tau + (s.seqWait.toNat - 1)) s.todo

/-- The primitives that take time. -/
def Prim.waits : Prim → Bool
  | .set _ _ => false
  | .ramp _ _ _ _ => true
  | .pause _ => true

/-- The present wait was set by a primitive: the ramp that `seq_pc` is at has begun, or the primitive before `seq_pc` is one
that takes time. A `SET` never ends in a wait (41_sequencer.md R146). -/
def State.midScript (s : State) : Bool :=
  s.seqInr || (1 ≤ s.seqPc.toNat && ((script s.seqAnim s.seqTgt)[s.seqPc.toNat - 1]?).any Prim.waits)

/-- The sequencer registers are consistent: a busy sequencer plays the animation of the mode with the target of the level
(10_state.md R23), its wait is 1 to 500 (R27, R39), it is at a position of its script that a wait led to, and the animation
ends at a strobe that is a tick boundary (10_state.md R40, 70_reset_and_hazards.md R252). -/
def State.sequencerOk (s : State) : Bool :=
  if s.seqBusy then
    animFor s.mode == some s.seqAnim && s.seqTgt == target s.level
      && 1 ≤ s.seqWait && s.seqWait ≤ 500
      && s.positionOk && s.midScript
      && (s.tickPh.toNat + s.remaining) % Config.tickMs == 1
  else s.seqWait == 0

/-- The invariant of a run: the registers keep their legal values (10_state.md R21 to R28, R39) and the sequencer is
consistent. -/
def State.Inv (s : State) : Prop :=
  s.legal = true ∧ s.tickPh ≤ 9 ∧ s.seqVal ≤ 100 ∧ s.sequencerOk = true

/-- The invariant of a run's observation: each channel shows the last value the trace has for it, or its reset value 0
(10_state.md R28); no record is from a later strobe; there is one decision for each strobe so far, and the last one has the
mode and level as they are since (00_scope.md R11); and the FIFO holds the words accepted last, in order (20_memory.md R60). -/
def State.ObservationInv (s : State) : Prop :=
  s.duty0 = lastPct s.dutyTrace .ch0 0
    ∧ s.duty1 = lastPct s.dutyTrace .ch1 0
    ∧ (∀ r ∈ s.dutyTrace, r.tau < s.tau)
    ∧ s.decisions.map (·.tau) = List.range s.tau
    ∧ (∀ r ∈ s.decisions.getLast?, r.mode = s.mode ∧ r.level = s.level)
    ∧ s.fifo <:+ s.accepted.map (·.word)

/-- The environment keeps 10_state.md R41 (6) at the next edge: no strobe at the edge right after a strobe. -/
def State.strobeAllowed (s : State) : Prop :=
  (nextPort s).1.rst = true ∨ (nextPort s).1.msStrobe = false ∨ s.lastStrobe = false

/-! ### What a tick's output action is -/

/-- The state outside the output action, the mode and the level: no event command changes any of it. -/
def TickFrame (s t : State) : Prop :=
  t.fifo = s.fifo ∧ t.tickPh = s.tickPh ∧ t.tau = s.tau ∧ t.decisions = s.decisions ∧ t.accepted = s.accepted
    ∧ t.inputs = s.inputs ∧ t.offers = s.offers ∧ t.lastStrobe = s.lastStrobe

/-- The sequencer registers are unchanged; `seq_anim` and `seq_tgt`, which have no meaning while the sequencer is idle
(10_state.md R27), are unchanged while it is busy. -/
def SequencerFrame (s t : State) : Prop :=
  t.seqBusy = s.seqBusy ∧ t.seqPc = s.seqPc ∧ t.seqInr = s.seqInr ∧ t.seqVal = s.seqVal ∧ t.seqWait = s.seqWait
    ∧ (t.seqBusy = true → t.seqAnim = s.seqAnim ∧ t.seqTgt = s.seqTgt)

/-- One flicker step happened: both channels got `FLICK[flick_t]`, channel 0 first, and `flick_t` was incremented modulo
`2^16` (40_state_machine.md R104, 42_flicker.md R181). -/
def FlickerHappened (s t : State) : Prop :=
  WritesApplied [⟨s.tau, .ch0, flick s.flickT⟩, ⟨s.tau, .ch1, flick s.flickT⟩] s t
    ∧ t.flickT.toNat = (s.flickT.toNat + 1) % 2 ^ 16 ∧ SequencerFrame s t

/-- An animation started: its writes of this strobe happened, and it has its whole duration to go (41_sequencer.md R143,
R145). Unless it is over at once, the sequencer plays it, with the latched target, and what the action of this strobe leaves
to come is the rest of its timeline. -/
def AnimationStarted (anim : Anim) (T : Pct) (s t : State) : Prop :=
  WritesApplied (upTo s.tau (timeline s.tau (script anim T))) s t
    ∧ t.seqBusy = decide (scriptDuration (script anim T) ≠ 0)
    ∧ t.remaining = scriptDuration (script anim T)
    ∧ (t.seqBusy = true → t.playing = true ∧ t.seqAnim = anim ∧ t.seqTgt = T
      ∧ timeline s.tau (script anim T) = upTo s.tau (timeline s.tau (script anim T)) ++ t.endAction.toCome)
    ∧ t.flickT = s.flickT

/-- No duty write and no animation: the duty outputs, the trace, the flicker index and the sequencer keep their values. -/
def NoOutput (s t : State) : Prop := WritesApplied [] s t ∧ t.flickT = s.flickT ∧ SequencerFrame s t

/-- The script for an entered mode (40_state_machine.md R105), as a table of its own. -/
def entryScript : Mode → Anim
  | .powerOff => .off
  | .standby => .stby
  | .powerOn => .on
  | .panShake => .shake
  | .levelUp => .level
  | .levelDown => .level
  | .nikomi => .on

/-- The output action of a tick from `s` to `t` (R104): the flicker step in Nikomi, the mode-entry animation with the new
level's target on a change to another mode, nothing otherwise. -/
def OutputAction (s t : State) : Prop :=
  if t.mode = .nikomi then FlickerHappened s t
  else if t.mode ≠ s.mode then AnimationStarted (entryScript t.mode) (target t.level) s t
  else NoOutput s t

/-! ### The transition function, tabulated -/

/-- The columns of the table of 40_state_machine.md R103. -/
inductive Column where
  | none
  | power
  | weakAbove0
  | weakAt0
  | strongBelow9
  | strongAt9
  | nikomi
  | changedNear
  | changedBand
  | changedFar
  | currentNear
  | currentNotNear
  | other
  deriving DecidableEq, Repr

/-- What a cell says of the level (R103). -/
inductive LevelChange where
  | keep
  | down
  | up
  deriving DecidableEq, Repr

/-- The column an event falls under at a level (R103). -/
def columnOf (l : Level) : Event → Column
  | .none => .none
  | .button .power => .power
  | .button .weak => if l.toNat = 0 then .weakAt0 else .weakAbove0
  | .button .strong => if l.toNat = 9 then .strongAt9 else .strongBelow9
  | .button .nikomi => .nikomi
  | .changed p => if p.toNat < 1500 then .changedNear else if p.toNat ≤ 3500 then .changedBand else .changedFar
  | .current p => if p.toNat < 1500 then .currentNear else .currentNotNear
  | .other => .other

/-- The table of R103, cell by cell. -/
def tableCell : Mode → Column → Mode × LevelChange
  | .powerOff, .power => (.standby, .keep)
  | .powerOff, _ => (.powerOff, .keep)
  | .standby, .power => (.powerOff, .keep)
  | .standby, .changedNear => (.powerOn, .keep)
  | .standby, .currentNear => (.powerOn, .keep)
  | .standby, _ => (.standby, .keep)
  | .powerOn, .power => (.powerOff, .keep)
  | .powerOn, .weakAbove0 => (.levelDown, .down)
  | .powerOn, .strongBelow9 => (.levelUp, .up)
  | .powerOn, .nikomi => (.nikomi, .keep)
  | .powerOn, .changedNear => (.panShake, .keep)
  | .powerOn, .changedBand => (.panShake, .keep)
  | .powerOn, .changedFar => (.standby, .keep)
  | .powerOn, _ => (.powerOn, .keep)
  | .panShake, .power => (.powerOff, .keep)
  | .panShake, .changedFar => (.standby, .keep)
  | .panShake, _ => (.powerOn, .keep)
  | .nikomi, .power => (.powerOff, .keep)
  | .nikomi, .weakAbove0 => (.levelDown, .down)
  | .nikomi, .weakAt0 => (.powerOn, .keep)
  | .nikomi, .strongBelow9 => (.levelUp, .up)
  | .nikomi, .strongAt9 => (.powerOn, .keep)
  | .nikomi, .changedNear => (.panShake, .keep)
  | .nikomi, .changedBand => (.panShake, .keep)
  | .nikomi, _ => (.nikomi, .keep)
  | .levelUp, _ => (.powerOn, .keep)
  | .levelDown, _ => (.powerOn, .keep)

/-- The level a cell leaves, as a number: no register width enters (R118). -/
def LevelChange.apply : LevelChange → Nat → Nat
  | .keep, l => l
  | .down, l => l - 1
  | .up, l => l + 1

/-! ### Samples of the flicker ROM -/

/-- The rows of 42_flicker.md R189 past the first 80 indices: the index and `F` there. -/
def flickSamples : List (Nat × Nat) := [
  (100, 10), (393, 19), (1000, 100), (4831, 17), (7403, 21), (30000, 10), (37761, 93), (55597, 14), (59293, 15),
  (65534, 88), (65535, 84)]

/-! ### The waveform over the reals -/

/-- `x(t) = t / 75` (42_flicker.md R182). -/
noncomputable def waveX (t : Nat) : ℝ := (t : ℝ) / 75

/-- `g(t)`, with the first factor unclamped (R182, R183). -/
noncomputable def waveG (t : Nat) : ℝ :=
  (Real.sin (waveX t) + 1 / 2) * (Real.sin (2 * waveX t) + 1 / 2) * (Real.sin (19 / 5 * waveX t) + 1 / 2)

/-- `c(t)`, clamped to `[0.1, 1.0]` (R182). -/
noncomputable def waveC (t : Nat) : ℝ := min (max (waveG t) (1 / 10)) 1

/-- `F(t) = RoundHalfAway(100 * c(t))` (R182), with `RoundHalfAway(y) = floor(y + 1/2)` for `y >= 0` (R184). -/
noncomputable def waveF (t : Nat) : Nat := ⌊100 * waveC t + 1 / 2⌋₊

end Sys2Proof.Machine
end

