-- ==== Sys2Proof/Certificates/Slice0/Obligations.lean ====
section
/-! DEFINITION. The statements for the provers. Each docstring says which rule of the spec it formalises. -/

open Sys2Proof Sys2Proof.Machine

/-! ### Encoding -/

/-- Decoding the word of a well-formed instruction gives the instruction back, whatever its operand, and so does decoding the
number of that word (30_encoding.md R76, R84). -/
def Obligations.DecodeInvertsEncode : Prop :=
  ∀ i : Instr, i.wellFormed = true → decode (encode i) = i ∧ decodeNumber (encode i).toNat = .ok i

/-- The word of each mnemonic (30_encoding.md R84). -/
def Obligations.EncodeIsTheMnemonicTable : Prop :=
  encode .pressPower = 0x00000 ∧ encode .pressWeak = 0x00001 ∧ encode .pressStrong = 0x00002
    ∧ encode .pressNikomi = 0x00003
    ∧ ∀ n : Prox, (encode (.proxchg n)).toNat = 0x10000 + n.toNat ∧ (encode (.proxcur n)).toNat = 0x20000 + n.toNat

/-- The opcode map of 30_encoding.md R80, row by row, with the operand of the proximity rows; and each of the 2^18 words selects
exactly one row. -/
def Obligations.OpcodeMapDecodesEveryWord : Prop :=
  ∀ w : EventWord,
    (w &&& 0x30003 = 0x00000 ↔ decode w = .pressPower)
      ∧ (w &&& 0x30003 = 0x00001 ↔ decode w = .pressWeak)
      ∧ (w &&& 0x30003 = 0x00002 ↔ decode w = .pressStrong)
      ∧ (w &&& 0x30003 = 0x00003 ↔ decode w = .pressNikomi)
      ∧ (w &&& 0x30000 = 0x10000 ↔ decode w = .proxchg (w.extractLsb' 0 16))
      ∧ (w &&& 0x30000 = 0x20000 ↔ decode w = .proxcur (w.extractLsb' 0 16))
      ∧ (w &&& 0x30000 = 0x30000 ↔ decode w = .reserved)
      ∧ ∃ r ∈ opcodeMap, r.selectedBy w = true ∧ ∀ q ∈ opcodeMap, q.selectedBy w = true → q = r

/-- The words of 30_encoding.md R84 and its examples decode to the commands they are listed for, and so does the word that R77
(b) gives with ignored bits set. -/
def Obligations.SpecWordsDecodeAsListed : Prop :=
  decode 0x00000 = .pressPower ∧ decode 0x00001 = .pressWeak ∧ decode 0x00002 = .pressStrong
    ∧ decode 0x00003 = .pressNikomi ∧ decode 0x105DB = .proxchg 1499 ∧ decode 0x105DC = .proxchg 1500
    ∧ decode 0x205DB = .proxcur 1499 ∧ decode 0x10DAC = .proxchg 3500 ∧ decode 0x10DAD = .proxchg 3501
    ∧ decode 0x0FFFD = .pressWeak

/-- A button word's bits 15:2 and the payload of a `tag = 11` word do not matter (30_encoding.md R77). -/
def Obligations.IgnoredBitsDoNotMatter : Prop :=
  ∀ v w : EventWord, v.extractLsb' 16 2 = w.extractLsb' 16 2 →
    (v.extractLsb' 16 2 = 0 → v.extractLsb' 0 2 = w.extractLsb' 0 2 → decode v = decode w)
      ∧ (v.extractLsb' 16 2 = 3 → decode v = decode w)

/-! ### A step runs the decoded word -/

/-- At a strobe that is a tick boundary, with the sequencer idle and a word `w` waiting, a step is `exec` of the instruction
that `w` decodes to, in the state where the environment has moved on, the write strobes are down, the phase has advanced and
`w` is taken; then the action ends and a push may be accepted (10_state.md R40, R41, 40_state_machine.md R101). -/
def Obligations.StrobeRunsTheDecodedWord : Prop :=
  ∀ (s e : State) (p : PortIn) (w : EventWord) (ws : List EventWord) (i : Instr),
    nextPort s = (p, e) → p.rst = false → p.msStrobe = true → s.lastStrobe = false → s.legal = true →
    s.tickPh = 0 → s.seqBusy = false → s.fifo = w :: ws → decode w = i → i.wellFormed = true →
    (∃ ins offs, e = { s with inputs := ins, offers := offs })
      ∧ step s = mapNext (fun t => acceptPush (decide (s.fifo.length < 4)) p (t.endAction.noteStrobe true))
          (exec i { e with fifo := ws, tickPh := 1, dutyWe0 := false, dutyWe1 := false })

/-- The same strobe with an empty FIFO runs the empty tick (40_state_machine.md R101, R114). -/
def Obligations.StrobeRunsTheEmptyTick : Prop :=
  ∀ (s e : State) (p : PortIn),
    nextPort s = (p, e) → p.rst = false → p.msStrobe = true → s.lastStrobe = false → s.legal = true →
    s.tickPh = 0 → s.seqBusy = false → s.fifo = [] →
    step s = mapNext (fun t => acceptPush true p (t.endAction.noteStrobe true))
      (emptyTick { e with tickPh := 1, dutyWe0 := false, dutyWe1 := false })

/-- A step at any strobe, on a boundary or off it, with the sequencer idle, waiting or at the end of its wait, is the millisecond
action of the state with the write strobes down, and then the push (10_state.md R41). The action advances the phase, gives a busy
sequencer its millisecond, and ticks at a boundary if the sequencer is idle then (R40); a tick takes the oldest word and
executes what it decodes to, or is the empty tick (40_state_machine.md R101). -/
def Obligations.StrobeRunsTheMillisecondAction : Prop :=
  ∀ (s e a q : State) (p : PortIn),
    nextPort s = (p, e) → p.rst = false → p.msStrobe = true → s.lastStrobe = false → s.legal = true →
    a = { e with dutyWe0 := false, dutyWe1 := false } →
    q = { a with tickPh := BitVec.ofNat 4 ((s.tickPh.toNat + 1) % 10) } →
    (∃ ins offs, e = { s with inputs := ins, offers := offs })
      ∧ step s = mapNext (fun t => acceptPush (decide (s.fifo.length < 4)) p (t.noteStrobe true)) (msAction a)
      ∧ preTick a = (if s.seqBusy = false then q
          else if s.seqWait = 1 then seqRun { q with seqWait := 0 }
          else { q with seqWait := s.seqWait - 1 })
      ∧ msAction a = mapNext State.endAction
          (if s.tickPh = 0 ∧ (preTick a).seqBusy = false then tick (preTick a) else .next (preTick a))
      ∧ (∀ t : State, t.fifo = [] → tick t = emptyTick t)
      ∧ ∀ (t : State) (w : EventWord) (ws : List EventWord), t.fifo = w :: ws →
          tick t = exec (decode w) { t with fifo := ws }

/-! ### The transition function and the event commands -/

/-- The transition function is the table of 40_state_machine.md R103, on the levels 0 to 9. -/
def Obligations.TransitionFunctionIsTheTable : Prop :=
  ∀ (m : Mode) (l : Level) (ev : Event), l.toNat ≤ 9 →
    (nextModeLevel m l ev).1 = (tableCell m (columnOf l ev)).1
      ∧ (nextModeLevel m l ev).2.toNat = (tableCell m (columnOf l ev)).2.apply l.toNat

/-- `PRESS POWER` (40_state_machine.md R110): it completes in every state, with the mode of the rule's table, the level
unchanged, the output action of R104, and nothing else changed. -/
def Obligations.PressPowerResult : Prop :=
  (∀ w : EventWord, w &&& 0x30003 = 0x00000 → decode w = .pressPower)
    ∧ ∀ s : State, ∃ t, exec .pressPower s = .next t
      ∧ t.mode = (match s.mode with
          | .powerOff => .standby
          | .standby => .powerOff
          | .powerOn => .powerOff
          | .panShake => .powerOff
          | .nikomi => .powerOff
          | .levelUp => .powerOn
          | .levelDown => .powerOn)
      ∧ t.level = s.level ∧ OutputAction s t ∧ TickFrame s t

/-- `PRESS WEAK` (40_state_machine.md R111): from PowerOn and Nikomi one level down, or to PowerOn at level 0. -/
def Obligations.PressWeakResult : Prop :=
  ∀ s : State, ∃ t, exec .pressWeak s = .next t
    ∧ t.mode = (match s.mode with
        | .powerOn => if 0 < s.level.toNat then .levelDown else .powerOn
        | .nikomi => if 0 < s.level.toNat then .levelDown else .powerOn
        | .powerOff => .powerOff
        | .standby => .standby
        | .panShake => .powerOn
        | .levelUp => .powerOn
        | .levelDown => .powerOn)
    ∧ t.level.toNat = (if s.mode = .powerOn ∨ s.mode = .nikomi then s.level.toNat - 1 else s.level.toNat)
    ∧ OutputAction s t ∧ TickFrame s t

/-- `PRESS STRONG` (40_state_machine.md R112): from PowerOn and Nikomi one level up, or to PowerOn at level 9. The rule speaks
of the levels 0 to 9. -/
def Obligations.PressStrongResult : Prop :=
  ∀ s : State, s.level.toNat ≤ 9 → ∃ t, exec .pressStrong s = .next t
    ∧ t.mode = (match s.mode with
        | .powerOn => if s.level.toNat < 9 then .levelUp else .powerOn
        | .nikomi => if s.level.toNat < 9 then .levelUp else .powerOn
        | .powerOff => .powerOff
        | .standby => .standby
        | .panShake => .powerOn
        | .levelUp => .powerOn
        | .levelDown => .powerOn)
    ∧ t.level.toNat = (if s.mode = .powerOn ∨ s.mode = .nikomi then min 9 (s.level.toNat + 1) else s.level.toNat)
    ∧ OutputAction s t ∧ TickFrame s t

/-- `PRESS NIKOMI` (40_state_machine.md R113). -/
def Obligations.PressNikomiResult : Prop :=
  ∀ s : State, ∃ t, exec .pressNikomi s = .next t
    ∧ t.mode = (match s.mode with
        | .powerOn => .nikomi
        | .nikomi => .nikomi
        | .powerOff => .powerOff
        | .standby => .standby
        | .panShake => .powerOn
        | .levelUp => .powerOn
        | .levelDown => .powerOn)
    ∧ t.level = s.level ∧ OutputAction s t ∧ TickFrame s t

/-- The empty tick (40_state_machine.md R114). -/
def Obligations.EmptyTickResult : Prop :=
  ∀ s : State, ∃ t, emptyTick s = .next t
    ∧ t.mode = (match s.mode with
        | .powerOff => .powerOff
        | .standby => .standby
        | .powerOn => .powerOn
        | .nikomi => .nikomi
        | .panShake => .powerOn
        | .levelUp => .powerOn
        | .levelDown => .powerOn)
    ∧ t.level = s.level ∧ OutputAction s t ∧ TickFrame s t

/-- `PROXCHG p` (40_state_machine.md R115). -/
def Obligations.ProxchgResult : Prop :=
  (∀ w : EventWord, w &&& 0x30000 = 0x10000 → decode w = .proxchg (w.extractLsb' 0 16))
    ∧ ∀ (p : Prox) (s : State), ∃ t, exec (.proxchg p) s = .next t
      ∧ t.mode = (match s.mode with
          | .powerOff => .powerOff
          | .standby => if p.toNat < 1500 then .powerOn else .standby
          | .powerOn => if p.toNat ≤ 3500 then .panShake else .standby
          | .panShake => if p.toNat ≤ 3500 then .powerOn else .standby
          | .nikomi => if p.toNat ≤ 3500 then .panShake else .nikomi
          | .levelUp => .powerOn
          | .levelDown => .powerOn)
      ∧ t.level = s.level ∧ OutputAction s t ∧ TickFrame s t

/-- `PROXCUR p` (40_state_machine.md R116). -/
def Obligations.ProxcurResult : Prop :=
  (∀ w : EventWord, w &&& 0x30000 = 0x20000 → decode w = .proxcur (w.extractLsb' 0 16))
    ∧ ∀ (p : Prox) (s : State), ∃ t, exec (.proxcur p) s = .next t
      ∧ t.mode = (match s.mode with
          | .standby => if p.toNat < 1500 then .powerOn else .standby
          | .powerOff => .powerOff
          | .powerOn => .powerOn
          | .nikomi => .nikomi
          | .panShake => .powerOn
          | .levelUp => .powerOn
          | .levelDown => .powerOn)
      ∧ t.level = s.level ∧ OutputAction s t ∧ TickFrame s t

/-- The reserved word (40_state_machine.md R117). -/
def Obligations.ReservedWordResult : Prop :=
  ∀ s : State, ∃ t, exec .reserved s = .next t
    ∧ t.mode = (match s.mode with
        | .powerOff => .powerOff
        | .standby => .standby
        | .powerOn => .powerOn
        | .nikomi => .nikomi
        | .panShake => .powerOn
        | .levelUp => .powerOn
        | .levelDown => .powerOn)
    ∧ t.level = s.level ∧ OutputAction s t ∧ TickFrame s t

/-- Only `PRESS WEAK` and `PRESS STRONG` write the level, and no step takes it out of 0 to 9 (10_state.md R22). -/
def Obligations.LevelIsWrittenOnlyByWeakAndStrong : Prop :=
  (∀ (i : Instr) (s t : State), exec i s = .next t → i ≠ .pressWeak → i ≠ .pressStrong → t.level = s.level)
    ∧ (∀ s t : State, emptyTick s = .next t → t.level = s.level)
    ∧ ∀ s t : State, step s = .next t → t.level.toNat ≤ 9

/-- The transient modes (40_state_machine.md R106): LevelUp and LevelDown go to PowerOn on whatever the next tick takes;
PanShake goes to PowerOff on `PRESS POWER`, to Standby on `PROXCHG p` with `p > 3500`, and to PowerOn on anything else. The
word taken is consumed, the level is kept, and what else happens is the output action of the new mode. -/
def Obligations.TransientModesLastOneDecision : Prop :=
  ∀ s : State, ∃ t, tick s = .next t ∧ t.fifo = s.fifo.tail ∧ OutputAction s t
    ∧ (s.mode = .levelUp ∨ s.mode = .levelDown → t.mode = .powerOn ∧ t.level = s.level)
    ∧ (s.mode = .panShake → t.level = s.level ∧ t.mode = (match s.fifo.head?.map decode with
        | some .pressPower => .powerOff
        | some (.proxchg p) => if 3500 < p.toNat then .standby else .powerOn
        | _ => .powerOn))

/-- The only ways out of Nikomi are `PRESS POWER`, `PRESS WEAK`, `PRESS STRONG`, and `PROXCHG p` with `p <= 3500`
(40_state_machine.md R113), and each of them leaves it. -/
def Obligations.WaysOutOfNikomi : Prop :=
  ∀ (i : Instr) (s t : State), s.mode = .nikomi → exec i s = .next t →
    (t.mode ≠ .nikomi ↔ i = .pressPower ∨ i = .pressWeak ∨ i = .pressStrong ∨ ∃ p, i = .proxchg p ∧ p.toNat ≤ 3500)

/-- In PowerOff every event command but `PRESS POWER`, and the empty tick, leave the whole state as it is (40_state_machine.md
R102, R104): the outputs stay dark until a `PRESS POWER` is taken (70_reset_and_hazards.md R241). That an idle `seq_anim` and
`seq_tgt` keep their values is the model's reading (assumption log 12). -/
def Obligations.PowerOffIgnoresAllButPower : Prop :=
  ∀ s : State, s.mode = .powerOff →
    (∀ i : Instr, i ≠ .pressPower → exec i s = .next s) ∧ emptyTick s = .next s

/-- The reading of the source's hysteresis property that 90_conflicts.md C1 keeps: a reading from 1500 to 3500 never switches
the light on from Standby, where it changes nothing at all, and never switches PowerOn to Standby. That an idle `seq_anim` and
`seq_tgt` keep their values is the model's reading (assumption log 12). -/
def Obligations.HysteresisBand : Prop :=
  ∀ (p : Prox) (s : State) (i : Instr), 1500 ≤ p.toNat → p.toNat ≤ 3500 → i = .proxchg p ∨ i = .proxcur p →
    ∃ t, exec i s = .next t ∧ (s.mode = .standby → t = s) ∧ (s.mode = .powerOn → t.mode ≠ .standby)

/-! ### The sequencer -/

/-- The five scripts, their durations and their writes per channel, with `T` the target (41_sequencer.md R144). -/
def Obligations.ScriptDurationsAndWrites : Prop :=
  ∀ (T : Pct) (start : Nat), T.toNat ≤ 100 →
    (script .off T = [.ramp [.ch0, .ch1] T 0 10, .set [.ch0, .ch1] 0]
      ∧ script .stby T = [.ramp [.ch0, .ch1] 0 T 10, .ramp [.ch0, .ch1] T 0 10, .pause 500]
      ∧ script .on T = [.set [.ch0, .ch1] T]
      ∧ script .shake T = [.ramp [.ch0, .ch1] 0 T 5, .ramp [.ch0, .ch1] 0 T 5, .pause 500]
      ∧ script .level T = [.set [.ch1] T, .ramp [.ch0] 50 100 5, .ramp [.ch0] 100 T 5])
    ∧ (scriptDuration (script .off T) = 10 * (T.toNat + 1)
      ∧ scriptDuration (script .stby T) = 20 * (T.toNat + 1) + 500
      ∧ scriptDuration (script .on T) = 0
      ∧ scriptDuration (script .shake T) = 10 * (T.toNat + 1) + 500
      ∧ scriptDuration (script .level T) = 5 * (152 - T.toNat))
    ∧ ∀ (anim : Anim) (ch : Channel),
      ((timeline start (script anim T)).filter fun r => r.ch = ch).length =
        (match anim, ch with
          | .off, _ => T.toNat + 2
          | .stby, _ => 2 * T.toNat + 2
          | .on, _ => 1
          | .shake, _ => 2 * T.toNat + 2
          | .level, .ch0 => 152 - T.toNat
          | .level, .ch1 => 1)

/-- The target of a level is ten times its number from 1 on, and the width of that duty is 250 microseconds a level (10_state.md
R23, 95_test_vectors.md L1.1); and the durations of the animations started with it are those that 70_reset_and_hazards.md R252
lists, multiples of 10 ms, at most 2520 ms (60_exceptions.md R219). -/
def Obligations.TargetAndDurationsOfEachLevel : Prop :=
  ∀ l : Level, l.toNat ≤ 9 →
    (target l).toNat = (l.toNat + 1) * 10
      ∧ (dutyUs (target l)).toNat = 250 * (l.toNat + 1)
      ∧ scriptDuration (script .off (target l)) = 110 + 100 * l.toNat
      ∧ scriptDuration (script .stby (target l)) = 720 + 200 * l.toNat
      ∧ scriptDuration (script .on (target l)) = 0
      ∧ scriptDuration (script .shake (target l)) = 610 + 100 * l.toNat
      ∧ scriptDuration (script .level (target l)) = 710 - 50 * l.toNat
      ∧ ∀ anim : Anim, 10 ∣ scriptDuration (script anim (target l)) ∧ scriptDuration (script anim (target l)) ≤ 2520

/-- The writes of the five animations from a start at strobe `start`, as the timelines of 41_sequencer.md R150 to R154 list
them. -/
def Obligations.AnimationTimelines : Prop :=
  ∀ (T : Pct) (start : Nat), T.toNat ≤ 100 →
    timeline start (script .off T) =
        ((List.range (T.toNat + 1)).flatMap fun k =>
          [⟨start + 10 * k, .ch0, BitVec.ofNat 7 (T.toNat - k)⟩, ⟨start + 10 * k, .ch1, BitVec.ofNat 7 (T.toNat - k)⟩])
        ++ [⟨start + 10 * (T.toNat + 1), .ch0, 0⟩, ⟨start + 10 * (T.toNat + 1), .ch1, 0⟩]
    ∧ timeline start (script .stby T) =
        ((List.range (T.toNat + 1)).flatMap fun k =>
          [⟨start + 10 * k, .ch0, BitVec.ofNat 7 k⟩, ⟨start + 10 * k, .ch1, BitVec.ofNat 7 k⟩])
        ++ ((List.range (T.toNat + 1)).flatMap fun k =>
          [⟨start + 10 * (T.toNat + 1) + 10 * k, .ch0, BitVec.ofNat 7 (T.toNat - k)⟩,
            ⟨start + 10 * (T.toNat + 1) + 10 * k, .ch1, BitVec.ofNat 7 (T.toNat - k)⟩])
    ∧ timeline start (script .on T) = [⟨start, .ch0, T⟩, ⟨start, .ch1, T⟩]
    ∧ timeline start (script .shake T) =
        ((List.range (T.toNat + 1)).flatMap fun k =>
          [⟨start + 5 * k, .ch0, BitVec.ofNat 7 k⟩, ⟨start + 5 * k, .ch1, BitVec.ofNat 7 k⟩])
        ++ ((List.range (T.toNat + 1)).flatMap fun k =>
          [⟨start + 5 * (T.toNat + 1) + 5 * k, .ch0, BitVec.ofNat 7 k⟩,
            ⟨start + 5 * (T.toNat + 1) + 5 * k, .ch1, BitVec.ofNat 7 k⟩])
    ∧ timeline start (script .level T) =
        ⟨start, .ch1, T⟩
        :: ((List.range 51).map fun k => ⟨start + 5 * k, .ch0, BitVec.ofNat 7 (50 + k)⟩)
        ++ ((List.range (101 - T.toNat)).map fun j => ⟨start + 255 + 5 * j, .ch0, BitVec.ofNat 7 (100 - j)⟩)

/-- The sequencer's registers play the timeline of the script they were started with (41_sequencer.md R143, R145, R146, R148).
From `SeqStart` at strobe `s.tau`, after `k` further millisecond actions, `k` below the duration: the animation still plays,
the duty trace has grown by exactly the writes due by then, the time left has shrunk by `k`, and mode, level, flicker index
and FIFO are as they were. The action in which the time runs out makes the last writes and leaves the sequencer idle before it
decides on a tick. A script without a wait is over at once. -/
def Obligations.SequencerPlaysTheTimeline : Prop :=
  ∀ (anim : Anim) (T : Pct) (s : State),
    (∀ k, k < scriptDuration (script anim T) →
      ∃ t, msActions k (seqStart anim T s).endAction = .next t
        ∧ t.seqBusy = true ∧ t.tau = s.tau + 1 + k
        ∧ t.dutyTrace = s.dutyTrace ++ upTo (s.tau + k) (timeline s.tau (script anim T))
        ∧ t.remaining = scriptDuration (script anim T) - k
        ∧ t.mode = s.mode ∧ t.level = s.level ∧ t.flickT = s.flickT ∧ t.fifo = s.fifo
        ∧ (k + 1 = scriptDuration (script anim T) →
          (preTick t).seqBusy = false
            ∧ (preTick t).dutyTrace = s.dutyTrace ++ timeline s.tau (script anim T)))
    ∧ (scriptDuration (script anim T) = 0 →
      (seqStart anim T s).seqBusy = false
        ∧ (seqStart anim T s).dutyTrace = s.dutyTrace ++ timeline s.tau (script anim T))

/-- A running animation keeps its timeline (41_sequencer.md R143, R146, 10_state.md R40), from every state of a playing
sequencer: over a millisecond action that leaves it playing, what the duty trace has and what is still to come stay together
the same, the trace grows by exactly the writes of this strobe, and one millisecond less remains; in the action that ends it,
all that was to come has been written before the tick. -/
def Obligations.RunningAnimationKeepsItsTimeline : Prop :=
  ∀ s : State, s.playing = true →
    ((preTick s).seqBusy = true → ∃ t, msAction s = .next t
      ∧ t.playing = true ∧ t.seqAnim = s.seqAnim ∧ t.seqTgt = s.seqTgt ∧ t.tau = s.tau + 1
      ∧ t.remaining + 1 = s.remaining
      ∧ t.dutyTrace ++ t.toCome = s.dutyTrace ++ s.toCome
      ∧ t.dutyTrace = s.dutyTrace ++ upTo s.tau s.toCome
      ∧ t.duty0 = lastPct (upTo s.tau s.toCome) .ch0 s.duty0
      ∧ t.duty1 = lastPct (upTo s.tau s.toCome) .ch1 s.duty1)
    ∧ ((preTick s).seqBusy = false →
      s.remaining = 1 ∧ (∀ r ∈ s.toCome, r.tau = s.tau) ∧ WritesApplied s.toCome s (preTick s))

/-- No tick is taken while an animation plays (10_state.md R40 (a), (b)): the millisecond action completes and leaves mode,
level, flicker index and FIFO as they were. -/
def Obligations.NoTickWhileAnimating : Prop :=
  ∀ s : State, (preTick s).seqBusy = true →
    ∃ t, msAction s = .next t ∧ t.mode = s.mode ∧ t.level = s.level ∧ t.flickT = s.flickT ∧ t.fifo = s.fifo
      ∧ t.seqBusy = true ∧ t.tickPh.toNat = (s.tickPh.toNat + 1) % 10

/-- No input other than reset changes a running animation (41_sequencer.md R148): two blocks that differ only in their FIFO
and what they accepted, and see any two words offered or none, make the same edge of everything else. -/
def Obligations.RunningAnimationIgnoresEvents : Prop :=
  ∀ (s t t' : State) (ws : List EventWord) (acc : List AcceptRecord) (p p' : PortIn),
    (preTick s).seqBusy = true → p.rst = false → p'.rst = false → p.msStrobe = p'.msStrobe →
    clockEdge p s = .next t → clockEdge p' { s with fifo := ws, accepted := acc } = .next t' →
    { t' with fifo := t.fifo, accepted := t.accepted } = t

/-- An animation ends at a tick boundary, so that the tick comes in the action that ends it (10_state.md R40 (c),
70_reset_and_hazards.md R252). -/
def Obligations.AnimationEndsOnABoundary : Prop :=
  ∀ s : State, s.Inv → s.seqBusy = true → (preTick s).seqBusy = false → s.atBoundary = true

/-- One millisecond action writes a channel more than once in exactly one case (70_reset_and_hazards.md R256): `A_OFF` ends in
it and its tick takes a `PRESS POWER`; then each channel is written twice, with 0. -/
def Obligations.SeveralWritesOnlyWhenPowerOffEnds : Prop :=
  ∀ s t : State, s.Inv → msAction s = .next t → ∀ ch : Channel,
    (1 < ((t.dutyTrace.drop s.dutyTrace.length).filter fun r => r.ch = ch).length ↔
      s.seqBusy = true ∧ s.seqAnim = .off ∧ (preTick s).seqBusy = false ∧ s.fifo.head?.map decode = some .pressPower)
    ∧ (1 < ((t.dutyTrace.drop s.dutyTrace.length).filter fun r => r.ch = ch).length →
      t.dutyTrace.drop s.dutyTrace.length =
        [⟨s.tau, .ch0, 0⟩, ⟨s.tau, .ch1, 0⟩, ⟨s.tau, .ch0, 0⟩, ⟨s.tau, .ch1, 0⟩])

/-! ### The flicker generator -/

/-- The flicker step (42_flicker.md R181): both channels get `FLICK[flick_t]`, channel 0 first, `flick_t` is incremented modulo
2^16, and nothing else changes; with the rule's two examples. -/
def Obligations.FlickerStepResult : Prop :=
  (∀ s : State, flickerStep s = { s with
      duty0 := flick s.flickT
      duty1 := flick s.flickT
      dutyWe0 := true
      dutyWe1 := true
      dutyTrace := s.dutyTrace ++ [⟨s.tau, .ch0, flick s.flickT⟩, ⟨s.tau, .ch1, flick s.flickT⟩]
      flickT := BitVec.ofNat 16 ((s.flickT.toNat + 1) % 2 ^ 16) })
    ∧ (flick 0).toNat = 13 ∧ (flick 65535).toNat = 84 ∧ ((65535 : FlickIndex) + 1) = 0

/-- The flicker index moves only in a tick whose new mode is Nikomi, by one modulo 2^16, and that tick writes both channels
with the ROM's entry at the index before it moved (10_state.md R24, 42_flicker.md R181, R188). -/
def Obligations.FlickerIndexMovesOnlyInNikomi : Prop :=
  ∀ s t : State, (nextPort s).1.rst = false → step s = .next t →
    t.flickT = s.flickT
      ∨ (t.mode = .nikomi ∧ s.tickPh = 0 ∧ (nextPort s).1.msStrobe = true
        ∧ t.flickT.toNat = (s.flickT.toNat + 1) % 2 ^ 16 ∧ t.duty0 = flick s.flickT ∧ t.duty1 = flick s.flickT)

/-- The contents of the flicker ROM as 42_flicker.md tells them: its values are those from 10 to 100, each of them somewhere,
43838 entries of 10 and 5795 of 100 (R185); the sums of its four parts and of the whole (R186); and the sample values (R189). -/
def Obligations.FlickerRomContents : Prop :=
  (∀ v : Pct, (∃ t : FlickIndex, flick t = v) ↔ 10 ≤ v.toNat ∧ v.toNat ≤ 100)
    ∧ ∀ rom : List Nat, rom = ((List.range 65536).map fun t => (flick (BitVec.ofNat 16 t)).toNat) →
      rom.count 10 = 43838 ∧ rom.count 100 = 5795
        ∧ (rom.take 16384).sum = 381691
        ∧ ((rom.drop 16384).take 16384).sum = 381193
        ∧ ((rom.drop 32768).take 16384).sum = 381030
        ∧ (rom.drop 49152).sum = 378544
        ∧ rom.sum = 1522458
        ∧ rom.take 80 =
            [13, 15, 18, 20, 24, 27, 31, 34, 39, 43, 48, 52, 58, 63, 68, 74, 80, 86, 92, 98]
              ++ List.replicate 42 100 ++ [93, 84, 75, 65, 56, 47, 38, 29, 20, 11] ++ List.replicate 8 10
        ∧ ∀ r ∈ flickSamples, (flick (BitVec.ofNat 16 r.1)).toNat = r.2

/-- `n` flicker steps in a row write the ROM's entries from the index on, modulo 2^16, to both channels, and after 2^16 steps
the index is where it was, so that the sequence repeats (42_flicker.md R181, R185). -/
def Obligations.FlickerSequenceIsPeriodic : Prop :=
  ∀ (s : State) (n : Nat),
    (flickerStep^[n] s).flickT.toNat = (s.flickT.toNat + n) % 2 ^ 16
      ∧ (flickerStep^[n] s).dutyTrace = s.dutyTrace ++ ((List.range n).flatMap fun k =>
          [⟨s.tau, .ch0, flick (BitVec.ofNat 16 (s.flickT.toNat + k))⟩,
            ⟨s.tau, .ch1, flick (BitVec.ofNat 16 (s.flickT.toNat + k))⟩])
      ∧ (flickerStep^[65536] s).flickT = s.flickT

/-- The one exact tie (42_flicker.md R184): at index 0 the waveform is 12.5, which rounds up to 13, as the ROM has it. That an
exact half is rounded up rests on 93_implementation_defined.md K1, which the spec takes from general knowledge (assumption
log 16). -/
def Obligations.WaveformTieRoundsUp : Prop :=
  100 * waveC 0 = 25 / 2 ∧ waveF 0 = 13 ∧ (flick 0).toNat = waveF 0

/-- The ROM's entries are the waveform of 42_flicker.md R182, evaluated over the reals, clamped and rounded, at the indices of
R189. Index 0 rests on the rounding of a half (93_implementation_defined.md K1, assumption log 16). -/
def Obligations.RomIsTheWaveformAtTheSamples : Prop :=
  ∀ t ∈ List.range 80 ++ flickSamples.map Prod.fst, (flick (BitVec.ofNat 16 t)).toNat = waveF t

/-- Every entry of the ROM is the waveform of 42_flicker.md R182 at its index, evaluated over the reals, clamped and rounded
(R186). Index 0 rests on the rounding of a half (93_implementation_defined.md K1, assumption log 16). -/
def Obligations.RomIsTheWaveform : Prop := ∀ t : FlickIndex, (flick t).toNat = waveF t.toNat

/-! ### The event FIFO -/

/-- `FifoTake()` answers the oldest word and leaves the rest in order, and `None` on an empty FIFO (20_memory.md R53). -/
def Obligations.TakeAnswersTheOldestWord : Prop :=
  ∀ s : State, (s.fifo = [] → s.take = none)
    ∧ ∀ (w : EventWord) (ws : List EventWord), s.fifo = w :: ws → s.take = some (w, { s with fifo := ws })

/-- No word is duplicated, reordered or dropped (20_memory.md R60): a step other than a reset takes the oldest word, if there is
one, at a strobe whose action ticks (10_state.md R40), and none at any other edge; and it accepts the word on the port, at the
back, if one is offered while there is room (R52), and none otherwise. -/
def Obligations.FifoKeepsEveryWordInOrder : Prop :=
  ∀ s t : State, (nextPort s).1.rst = false → step s = .next t →
    ∃ taken pushed : List EventWord,
      taken ++ t.fifo = s.fifo ++ pushed
        ∧ taken = (if (nextPort s).1.msStrobe = true ∧ s.tickPh = 0 ∧ (preTick s).seqBusy = false then s.fifo.take 1 else [])
        ∧ pushed = (if (nextPort s).1.evValid = true ∧ s.fifo.length < 4 then [(nextPort s).1.evData] else [])
        ∧ t.accepted.map (·.word) = s.accepted.map (·.word) ++ pushed

/-- A FIFO that is full before an edge accepts no word at it, even at a strobe edge whose action frees a slot
(20_memory.md R54). -/
def Obligations.FullFifoAcceptsNothing : Prop :=
  ∀ s t : State, s.fifo.length = 4 → (nextPort s).1.rst = false → step s = .next t →
    t.accepted = s.accepted ∧ (t.fifo = s.fifo ∨ t.fifo = s.fifo.tail)

/-- A word offered while the port is ready is accepted at that edge: it becomes the newest entry, and it counts as accepted
before the next strobe (20_memory.md R52, R54, R55). -/
def Obligations.OfferedWordIsAcceptedWhenReady : Prop :=
  ∀ s t : State, (nextPort s).1.rst = false → (nextPort s).1.evValid = true → s.fifo.length < 4 → step s = .next t →
    t.fifo.getLast? = some (nextPort s).1.evData
      ∧ t.accepted = s.accepted ++ [⟨t.tau, (nextPort s).1.evData⟩]
      ∧ t.tau = s.tau + (if (nextPort s).1.msStrobe then 1 else 0)

/-! ### Outputs -/

/-- `Write([0, 1], v)` (41_sequencer.md R141): both channels get `v`, channel 0 is recorded before channel 1, whatever the
channels held, both write strobes rise, and nothing else changes. A write to one channel does the same for that channel. -/
def Obligations.WriteRecordsEveryChannel : Prop :=
  ∀ (s : State) (v : Pct),
    s.write both v = { s with
        duty0 := v
        duty1 := v
        dutyWe0 := true
        dutyWe1 := true
        dutyTrace := s.dutyTrace ++ [⟨s.tau, .ch0, v⟩, ⟨s.tau, .ch1, v⟩] }
      ∧ s.write [.ch0] v = { s with duty0 := v, dutyWe0 := true, dutyTrace := s.dutyTrace ++ [⟨s.tau, .ch0, v⟩] }
      ∧ s.write [.ch1] v = { s with duty1 := v, dutyWe1 := true, dutyTrace := s.dutyTrace ++ [⟨s.tau, .ch1, v⟩] }

/-- The write strobes (10_state.md R29): each is 1 for exactly the one clock cycle after a millisecond action that wrote its
channel at least once, and 0 after every other edge and after reset. -/
def Obligations.WriteStrobes : Prop :=
  State.reset.dutyWe0 = false ∧ State.reset.dutyWe1 = false
    ∧ ∀ s t : State, step s = .next t →
      if (nextPort s).1.rst = false ∧ (nextPort s).1.msStrobe = true then
        s.dutyTrace <+: t.dutyTrace
          ∧ (t.dutyWe0 = true ↔ ∃ r ∈ t.dutyTrace.drop s.dutyTrace.length, r.ch = .ch0)
          ∧ (t.dutyWe1 = true ↔ ∃ r ∈ t.dutyTrace.drop s.dutyTrace.length, r.ch = .ch1)
      else t.dutyWe0 = false ∧ t.dutyWe1 = false

/-- The duty width of each channel (41_sequencer.md R142): 25 times the percentage, the exact quotient, 0 to 2500. -/
def Obligations.DutyWidthIsExact : Prop :=
  ∀ (s : State) (rst : Bool), s.duty0 ≤ 100 → s.duty1 ≤ 100 →
    (s.portOut rst).dutyUs0.toNat = 25 * s.duty0.toNat ∧ (s.portOut rst).dutyUs0.toNat * 100 = 2500 * s.duty0.toNat
      ∧ (s.portOut rst).dutyUs1.toNat = 25 * s.duty1.toNat ∧ (s.portOut rst).dutyUs1.toNat * 100 = 2500 * s.duty1.toNat
      ∧ (s.portOut rst).dutyUs0.toNat ≤ 2500 ∧ (s.portOut rst).dutyUs1.toNat ≤ 2500

/-- The ports (10_state.md R36, R37): the duty percentages and the two bits of the write strobes, the mode in the codes of
30_encoding.md R71, the level, the busy flag, `fifo_count` up to 4 in its three bits, and the ready signal, low while `rst` is
high (20_memory.md R52); and the three flags (10_state.md R31). -/
def Obligations.StatusOutputs : Prop :=
  ∀ (s : State) (rst : Bool), s.fifo.length ≤ 4 →
    (s.portOut rst).dutyPct0 = s.duty0 ∧ (s.portOut rst).dutyPct1 = s.duty1
      ∧ (s.portOut rst).dutyWe.getLsbD 0 = s.dutyWe0 ∧ (s.portOut rst).dutyWe.getLsbD 1 = s.dutyWe1
      ∧ (s.portOut rst).stMode.toNat = (match s.mode with
        | .powerOff => 0
        | .standby => 1
        | .powerOn => 2
        | .panShake => 3
        | .nikomi => 4
        | .levelUp => 5
        | .levelDown => 6)
      ∧ (s.portOut rst).stLevel = s.level ∧ (s.portOut rst).stBusy = s.seqBusy
      ∧ (s.portOut rst).stFifoCount.toNat = s.fifo.length
      ∧ ((s.portOut rst).evReady = true ↔ rst = false ∧ s.fifo.length < 4)
      ∧ (s.busy = true ↔ s.seqBusy = true)
      ∧ (s.fifoEmpty = true ↔ s.fifo.length = 0) ∧ (s.fifoFull = true ↔ s.fifo.length = 4)

/-! ### Time -/

/-- The tick phase and the strobe count (10_state.md R26, R40, 00_scope.md R10): a strobe advances the phase modulo 10 and the
count by one, an edge without a strobe leaves both. -/
def Obligations.PhaseCountsStrobesModuloTen : Prop :=
  ∀ s t : State, (nextPort s).1.rst = false → step s = .next t →
    if (nextPort s).1.msStrobe = true then
      t.tickPh.toNat = (s.tickPh.toNat + 1) % 10 ∧ t.tau = s.tau + 1
    else t.tickPh = s.tickPh ∧ t.tau = s.tau

/-- A tick is taken only at a tick boundary (40_state_machine.md R100, 10_state.md R40): at any other strobe no word is taken,
and mode, level and flicker index keep their values. -/
def Obligations.TicksOnlyAtBoundaries : Prop :=
  ∀ s t : State, (nextPort s).1.rst = false → s.tickPh ≠ 0 → step s = .next t →
    s.fifo <+: t.fifo ∧ t.mode = s.mode ∧ t.level = s.level ∧ t.flickT = s.flickT

/-- At an edge without reset and strobe only a push happens, and the write strobes fall (10_state.md R29, R41). -/
def Obligations.EdgeWithoutStrobeOnlyPushes : Prop :=
  ∀ s t : State, (nextPort s).1.rst = false → (nextPort s).1.msStrobe = false → step s = .next t →
    ∃ pushed : List EventWord,
      t = { s with
        fifo := s.fifo ++ pushed
        accepted := s.accepted ++ pushed.map fun w => ⟨s.tau, w⟩
        dutyWe0 := false
        dutyWe1 := false
        lastStrobe := false
        inputs := t.inputs
        offers := t.offers }
      ∧ pushed = (if (nextPort s).1.evValid = true ∧ s.fifo.length < 4 then [(nextPort s).1.evData] else [])

/-! ### Reset -/

/-- The reset values that 10_state.md R38 states, with `seq_anim`, whose value R38 leaves out, not mentioned. -/
def Obligations.ResetValues : Prop :=
  State.reset.mode = .powerOff ∧ State.reset.mode.code = 0 ∧ State.reset.level = 5 ∧ State.reset.flickT = 0
    ∧ State.reset.fifo.length = 0 ∧ State.reset.tickPh = 0 ∧ State.reset.seqBusy = false ∧ State.reset.seqPc = 0
    ∧ State.reset.seqInr = false ∧ State.reset.seqVal = 0 ∧ State.reset.seqWait = 0 ∧ State.reset.seqTgt = 0
    ∧ State.reset.duty0 = 0 ∧ State.reset.duty1 = 0 ∧ (State.reset.portOut false).dutyUs0 = 0
    ∧ (State.reset.portOut false).dutyUs1 = 0 ∧ State.reset.dutyWe0 = false ∧ State.reset.dutyWe1 = false
    ∧ (State.reset.portOut true).evReady = false ∧ (State.reset.portOut false).evReady = true

/-- An edge with `rst = 1` completes in every state, even one that no run reaches, gives every register its reset value,
abandons the animation, empties the FIFO, accepts nothing and ignores the strobe (70_reset_and_hazards.md R240, R242). The
observation starts anew and `seq_anim` takes the value it has in `State.reset`: the model's choices (assumption logs 4 and
1). -/
def Obligations.ResetEdgeRestoresTheResetState : Prop :=
  ∀ (s : State) (p : PortIn) (rest : List PortIn), s.inputs = p :: rest → p.rst = true →
    step s = .next { State.reset with inputs := rest, offers := s.offers }

/-- The first edge after reset, if the environment makes it a strobe with nothing offered (70_reset_and_hazards.md R241):
PowerOff stays, nothing is written, the outputs stay at 0, and the next strobe is τ = 1. -/
def Obligations.FirstStrobeAfterReset : Prop :=
  ∀ (p : PortIn) (rest : List PortIn), p.rst = false → p.msStrobe = true → p.evValid = false →
    ∃ t, step { State.reset with inputs := p :: rest } = .next t ∧ t.mode = .powerOff ∧ t.level = 5 ∧ t.flickT = 0
      ∧ t.dutyTrace = [] ∧ t.duty0 = 0 ∧ t.duty1 = 0 ∧ t.dutyWe0 = false ∧ t.dutyWe1 = false ∧ t.fifo = []
      ∧ t.seqBusy = false ∧ t.tau = 1 ∧ t.tickPh = 1 ∧ t.decisions = [⟨0, .powerOff, 5⟩] ∧ t.accepted = []
      ∧ t.inputs = rest

/-! ### Invariants -/

/-- Every step keeps the invariant (10_state.md R39, R23, R40): from any state that meets it, whatever the environment does. -/
def Obligations.StepKeepsInvariant : Prop := ∀ s t : State, s.Inv → step s = .next t → t.Inv

/-- The reset state meets the invariant. -/
def Obligations.ResetMeetsInvariant : Prop := State.reset.Inv

/-- Every step keeps the observation's invariant (00_scope.md R11, 10_state.md R28, 20_memory.md R60): the duty outputs are the
last values of the trace, records are of strobes past, there is one decision a strobe and the last has the present mode and
level, and the FIFO holds the words accepted last. At a reset edge the observation starts anew, which is the model's reading
(assumption log 4). -/
def Obligations.StepKeepsObservationInvariant : Prop :=
  ∀ s t : State, s.ObservationInv → step s = .next t → t.ObservationInv

/-- The reset state meets the observation's invariant. -/
def Obligations.ResetMeetsObservationInvariant : Prop := State.reset.ObservationInv

/-- No input, event word or internal condition makes the block stop (60_exceptions.md R210): from a state that meets the
invariant, with the environment keeping 10_state.md R41 (6), a step completes. -/
def Obligations.StepCompletes : Prop := ∀ s : State, s.Inv → s.strobeAllowed → ∃ t, step s = .next t

/-- The model refuses a step in exactly two cases, and only outside reset. They are its reading of what
93_implementation_defined.md asks a model to refuse: a state that breaks 10_state.md R39 (U9, assumption log 10), and a strobe
at the edge right after a strobe (U10, assumption log 3). A second strobe in one millisecond that is not at the next edge, which
U10 names too, does not show in the model and is not refused (assumption log 23). -/
def Obligations.RefusalsAreTwo : Prop :=
  ∀ s : State,
    (step s = .refused .unreachableState ↔ (nextPort s).1.rst = false ∧ s.legal = false)
      ∧ (step s = .refused .strobeTooClose ↔
        (nextPort s).1.rst = false ∧ s.legal = true ∧ (nextPort s).1.msStrobe = true ∧ s.lastStrobe = true)
      ∧ ∀ r, step s = .refused r → r = .unreachableState ∨ r = .strobeTooClose

/-! ### The environment -/

/-- The quiet environment keeps 10_state.md R41 (6), and it holds an offer that is due until the port accepts it (20_memory.md
R57 (e)). That it is quiet is the model's choice (assumption log 2). -/
def Obligations.QuietEnvironmentKeepsItsContract : Prop :=
  ∀ s : State, s.inputs = [] → s.strobeAllowed
    ∧ ∀ (o : Offer) (rest : List Offer) (t : State), s.offers = o :: rest → o.notBefore ≤ s.tau → step s = .next t →
      (nextPort s).1.evValid = true ∧ (nextPort s).1.evData = o.word
        ∧ (if s.fifo.length < 4 then t.offers = rest ∧ t.accepted = s.accepted ++ [⟨s.tau, o.word⟩]
          else t.offers = s.offers ∧ t.accepted = s.accepted)

/-- A poll of the Proximity Monitor whose reading moved more than the threshold publishes exactly the pair that `PROXBOTH`
expands to (30_encoding.md R83, 60_exceptions.md R218); one that moved less publishes the first of the two, and a failed read
nothing. -/
def Obligations.ProximityPollPublishes : Prop :=
  (∀ last : Prox, proximityPoll none last = ([], last))
    ∧ ∀ raw last : Prox, raw.toNat ≤ Config.maxRaw.toNat →
      ∃ m : Prox, m.toNat = Config.maxRaw.toNat - raw.toNat
        ∧ (10 < (m.toNat - last.toNat) + (last.toNat - m.toNat) →
          proximityPoll (some raw) last = (assemble (.proxboth m.toNat), m))
        ∧ ((m.toNat - last.toNat) + (last.toNat - m.toNat) ≤ 10 →
          proximityPoll (some raw) last = (assemble (.proxcur m.toNat), last))
end

