-- ==== Sys2Proof/Laws/Decode.lean ====
section
/-! SUPPORT. The fields of an event word, and what the opcode map's masks pick out of it (30_encoding.md R70 to R80). -/

namespace Sys2Proof

/-- The bits of an event word: the payload below bit 16, the tag from there on (R70). -/
theorem eventWord_bit (t : BitVec 2) (p : BitVec 16) (i : Nat) :
    (eventWord t p).getLsbD i = if i < 16 then p.getLsbD i else t.getLsbD (i - 16) := by
  rw [show eventWord t p = (t ++ p : BitVec (2 + 16)) from rfl, BitVec.getLsbD_append]

@[simp] theorem tagOf_eventWord (t : BitVec 2) (p : BitVec 16) : tagOf (eventWord t p) = t := by
  apply BitVec.eq_of_getLsbD_eq
  intro i hi
  simp only [tagOf, BitVec.getLsbD_extractLsb', eventWord_bit]
  rw [if_neg (by omega)]
  simp [hi]

@[simp] theorem payloadOf_eventWord (t : BitVec 2) (p : BitVec 16) : payloadOf (eventWord t p) = p := by
  apply BitVec.eq_of_getLsbD_eq
  intro i hi
  simp only [payloadOf, BitVec.getLsbD_extractLsb', eventWord_bit]
  rw [if_pos (by omega)]
  simp [hi]

/-- Every event word is its tag and payload (R70). -/
theorem eventWord_tagOf_payloadOf (w : EventWord) : eventWord (tagOf w) (payloadOf w) = w := by
  apply BitVec.eq_of_getLsbD_eq
  intro i hi
  simp only [eventWord_bit, tagOf, payloadOf, BitVec.getLsbD_extractLsb']
  split
  · simp_all
  · rw [show 16 + (i - 16) = i by omega]
    have : i - 16 < 2 := by omega
    simp [this]

@[simp] theorem kindBits_eventWord (t : BitVec 2) (p : BitVec 16) : kindBits (eventWord t p) = p.extractLsb' 0 2 := by
  apply BitVec.eq_of_getLsbD_eq
  intro i hi
  simp only [kindBits, BitVec.getLsbD_extractLsb', eventWord_bit]
  rw [if_pos (by omega)]

/-- The mask of the proximity and reserved rows picks the tag (R80). -/
theorem and_tagMask (w : EventWord) : w &&& 0x30000 = eventWord (tagOf w) 0 := by
  apply BitVec.eq_of_getLsbD_eq
  intro i hi
  rw [BitVec.getLsbD_and, eventWord_bit, tagOf]
  simp only [BitVec.getLsbD_extractLsb']
  interval_cases i <;> simp

/-- The mask of the button rows picks the tag and the button kind (R80). -/
theorem and_buttonMask (w : EventWord) : w &&& 0x30003 = eventWord (tagOf w) ((kindBits w).setWidth 16) := by
  apply BitVec.eq_of_getLsbD_eq
  intro i hi
  rw [BitVec.getLsbD_and, eventWord_bit, tagOf, kindBits]
  simp only [BitVec.getLsbD_extractLsb', BitVec.getLsbD_setWidth]
  interval_cases i <;> simp

theorem eventWord_inj {t u : BitVec 2} {p q : BitVec 16} : eventWord t p = eventWord u q ↔ t = u ∧ p = q := by
  constructor
  · intro h
    exact ⟨by simpa using congrArg tagOf h, by simpa using congrArg payloadOf h⟩
  · rintro ⟨rfl, rfl⟩; rfl

end Sys2Proof
end

