-- ==== Sys2Proof/Laws/State.lean ====
section
/-! SUPPORT. One lemma per field per update of the state, so that no later proof unfolds a record update. -/

namespace Sys2Proof.Machine

variable (s : State) (w : EventWord) (ch : Channel) (chs : List Channel) (v : Pct) (anim : Anim) (T : Pct)
  (d : Millis) (inr b : Bool) (m : Mode) (l : Level)

/-! ### `push` -/

@[simp] theorem State.push_mode : (s.push w).mode = s.mode := rfl
@[simp] theorem State.push_level : (s.push w).level = s.level := rfl
@[simp] theorem State.push_flickT : (s.push w).flickT = s.flickT := rfl
@[simp] theorem State.push_fifo : (s.push w).fifo = s.fifo ++ [w] := rfl
@[simp] theorem State.push_tickPh : (s.push w).tickPh = s.tickPh := rfl
@[simp] theorem State.push_seqBusy : (s.push w).seqBusy = s.seqBusy := rfl
@[simp] theorem State.push_seqAnim : (s.push w).seqAnim = s.seqAnim := rfl
@[simp] theorem State.push_seqPc : (s.push w).seqPc = s.seqPc := rfl
@[simp] theorem State.push_seqInr : (s.push w).seqInr = s.seqInr := rfl
@[simp] theorem State.push_seqVal : (s.push w).seqVal = s.seqVal := rfl
@[simp] theorem State.push_seqWait : (s.push w).seqWait = s.seqWait := rfl
@[simp] theorem State.push_seqTgt : (s.push w).seqTgt = s.seqTgt := rfl
@[simp] theorem State.push_duty0 : (s.push w).duty0 = s.duty0 := rfl
@[simp] theorem State.push_duty1 : (s.push w).duty1 = s.duty1 := rfl
@[simp] theorem State.push_dutyWe0 : (s.push w).dutyWe0 = s.dutyWe0 := rfl
@[simp] theorem State.push_dutyWe1 : (s.push w).dutyWe1 = s.dutyWe1 := rfl
@[simp] theorem State.push_tau : (s.push w).tau = s.tau := rfl
@[simp] theorem State.push_dutyTrace : (s.push w).dutyTrace = s.dutyTrace := rfl
@[simp] theorem State.push_decisions : (s.push w).decisions = s.decisions := rfl
@[simp] theorem State.push_accepted : (s.push w).accepted = s.accepted ++ [⟨s.tau, w⟩] := rfl
@[simp] theorem State.push_inputs : (s.push w).inputs = s.inputs := rfl
@[simp] theorem State.push_offers : (s.push w).offers = s.offers := rfl
@[simp] theorem State.push_lastStrobe : (s.push w).lastStrobe = s.lastStrobe := rfl

/-! ### `dropOldest` -/

@[simp] theorem State.dropOldest_mode : (s.dropOldest).mode = s.mode := rfl
@[simp] theorem State.dropOldest_level : (s.dropOldest).level = s.level := rfl
@[simp] theorem State.dropOldest_flickT : (s.dropOldest).flickT = s.flickT := rfl
@[simp] theorem State.dropOldest_fifo : (s.dropOldest).fifo = s.fifo.tail := rfl
@[simp] theorem State.dropOldest_tickPh : (s.dropOldest).tickPh = s.tickPh := rfl
@[simp] theorem State.dropOldest_seqBusy : (s.dropOldest).seqBusy = s.seqBusy := rfl
@[simp] theorem State.dropOldest_seqAnim : (s.dropOldest).seqAnim = s.seqAnim := rfl
@[simp] theorem State.dropOldest_seqPc : (s.dropOldest).seqPc = s.seqPc := rfl
@[simp] theorem State.dropOldest_seqInr : (s.dropOldest).seqInr = s.seqInr := rfl
@[simp] theorem State.dropOldest_seqVal : (s.dropOldest).seqVal = s.seqVal := rfl
@[simp] theorem State.dropOldest_seqWait : (s.dropOldest).seqWait = s.seqWait := rfl
@[simp] theorem State.dropOldest_seqTgt : (s.dropOldest).seqTgt = s.seqTgt := rfl
@[simp] theorem State.dropOldest_duty0 : (s.dropOldest).duty0 = s.duty0 := rfl
@[simp] theorem State.dropOldest_duty1 : (s.dropOldest).duty1 = s.duty1 := rfl
@[simp] theorem State.dropOldest_dutyWe0 : (s.dropOldest).dutyWe0 = s.dutyWe0 := rfl
@[simp] theorem State.dropOldest_dutyWe1 : (s.dropOldest).dutyWe1 = s.dutyWe1 := rfl
@[simp] theorem State.dropOldest_tau : (s.dropOldest).tau = s.tau := rfl
@[simp] theorem State.dropOldest_dutyTrace : (s.dropOldest).dutyTrace = s.dutyTrace := rfl
@[simp] theorem State.dropOldest_decisions : (s.dropOldest).decisions = s.decisions := rfl
@[simp] theorem State.dropOldest_accepted : (s.dropOldest).accepted = s.accepted := rfl
@[simp] theorem State.dropOldest_inputs : (s.dropOldest).inputs = s.inputs := rfl
@[simp] theorem State.dropOldest_offers : (s.dropOldest).offers = s.offers := rfl
@[simp] theorem State.dropOldest_lastStrobe : (s.dropOldest).lastStrobe = s.lastStrobe := rfl

/-! ### `clearWe` -/

@[simp] theorem State.clearWe_mode : (s.clearWe).mode = s.mode := rfl
@[simp] theorem State.clearWe_level : (s.clearWe).level = s.level := rfl
@[simp] theorem State.clearWe_flickT : (s.clearWe).flickT = s.flickT := rfl
@[simp] theorem State.clearWe_fifo : (s.clearWe).fifo = s.fifo := rfl
@[simp] theorem State.clearWe_tickPh : (s.clearWe).tickPh = s.tickPh := rfl
@[simp] theorem State.clearWe_seqBusy : (s.clearWe).seqBusy = s.seqBusy := rfl
@[simp] theorem State.clearWe_seqAnim : (s.clearWe).seqAnim = s.seqAnim := rfl
@[simp] theorem State.clearWe_seqPc : (s.clearWe).seqPc = s.seqPc := rfl
@[simp] theorem State.clearWe_seqInr : (s.clearWe).seqInr = s.seqInr := rfl
@[simp] theorem State.clearWe_seqVal : (s.clearWe).seqVal = s.seqVal := rfl
@[simp] theorem State.clearWe_seqWait : (s.clearWe).seqWait = s.seqWait := rfl
@[simp] theorem State.clearWe_seqTgt : (s.clearWe).seqTgt = s.seqTgt := rfl
@[simp] theorem State.clearWe_duty0 : (s.clearWe).duty0 = s.duty0 := rfl
@[simp] theorem State.clearWe_duty1 : (s.clearWe).duty1 = s.duty1 := rfl
@[simp] theorem State.clearWe_dutyWe0 : (s.clearWe).dutyWe0 = false := rfl
@[simp] theorem State.clearWe_dutyWe1 : (s.clearWe).dutyWe1 = false := rfl
@[simp] theorem State.clearWe_tau : (s.clearWe).tau = s.tau := rfl
@[simp] theorem State.clearWe_dutyTrace : (s.clearWe).dutyTrace = s.dutyTrace := rfl
@[simp] theorem State.clearWe_decisions : (s.clearWe).decisions = s.decisions := rfl
@[simp] theorem State.clearWe_accepted : (s.clearWe).accepted = s.accepted := rfl
@[simp] theorem State.clearWe_inputs : (s.clearWe).inputs = s.inputs := rfl
@[simp] theorem State.clearWe_offers : (s.clearWe).offers = s.offers := rfl
@[simp] theorem State.clearWe_lastStrobe : (s.clearWe).lastStrobe = s.lastStrobe := rfl

/-! ### `beginScript anim T` -/

@[simp] theorem State.beginScript_mode : (s.beginScript anim T).mode = s.mode := rfl
@[simp] theorem State.beginScript_level : (s.beginScript anim T).level = s.level := rfl
@[simp] theorem State.beginScript_flickT : (s.beginScript anim T).flickT = s.flickT := rfl
@[simp] theorem State.beginScript_fifo : (s.beginScript anim T).fifo = s.fifo := rfl
@[simp] theorem State.beginScript_tickPh : (s.beginScript anim T).tickPh = s.tickPh := rfl
@[simp] theorem State.beginScript_seqBusy : (s.beginScript anim T).seqBusy = true := rfl
@[simp] theorem State.beginScript_seqAnim : (s.beginScript anim T).seqAnim = anim := rfl
@[simp] theorem State.beginScript_seqPc : (s.beginScript anim T).seqPc = 0 := rfl
@[simp] theorem State.beginScript_seqInr : (s.beginScript anim T).seqInr = false := rfl
@[simp] theorem State.beginScript_seqVal : (s.beginScript anim T).seqVal = s.seqVal := rfl
@[simp] theorem State.beginScript_seqWait : (s.beginScript anim T).seqWait = s.seqWait := rfl
@[simp] theorem State.beginScript_seqTgt : (s.beginScript anim T).seqTgt = T := rfl
@[simp] theorem State.beginScript_duty0 : (s.beginScript anim T).duty0 = s.duty0 := rfl
@[simp] theorem State.beginScript_duty1 : (s.beginScript anim T).duty1 = s.duty1 := rfl
@[simp] theorem State.beginScript_dutyWe0 : (s.beginScript anim T).dutyWe0 = s.dutyWe0 := rfl
@[simp] theorem State.beginScript_dutyWe1 : (s.beginScript anim T).dutyWe1 = s.dutyWe1 := rfl
@[simp] theorem State.beginScript_tau : (s.beginScript anim T).tau = s.tau := rfl
@[simp] theorem State.beginScript_dutyTrace : (s.beginScript anim T).dutyTrace = s.dutyTrace := rfl
@[simp] theorem State.beginScript_decisions : (s.beginScript anim T).decisions = s.decisions := rfl
@[simp] theorem State.beginScript_accepted : (s.beginScript anim T).accepted = s.accepted := rfl
@[simp] theorem State.beginScript_inputs : (s.beginScript anim T).inputs = s.inputs := rfl
@[simp] theorem State.beginScript_offers : (s.beginScript anim T).offers = s.offers := rfl
@[simp] theorem State.beginScript_lastStrobe : (s.beginScript anim T).lastStrobe = s.lastStrobe := rfl

/-! ### `endScript` -/

@[simp] theorem State.endScript_mode : (s.endScript).mode = s.mode := rfl
@[simp] theorem State.endScript_level : (s.endScript).level = s.level := rfl
@[simp] theorem State.endScript_flickT : (s.endScript).flickT = s.flickT := rfl
@[simp] theorem State.endScript_fifo : (s.endScript).fifo = s.fifo := rfl
@[simp] theorem State.endScript_tickPh : (s.endScript).tickPh = s.tickPh := rfl
@[simp] theorem State.endScript_seqBusy : (s.endScript).seqBusy = false := rfl
@[simp] theorem State.endScript_seqAnim : (s.endScript).seqAnim = s.seqAnim := rfl
@[simp] theorem State.endScript_seqPc : (s.endScript).seqPc = s.seqPc := rfl
@[simp] theorem State.endScript_seqInr : (s.endScript).seqInr = s.seqInr := rfl
@[simp] theorem State.endScript_seqVal : (s.endScript).seqVal = s.seqVal := rfl
@[simp] theorem State.endScript_seqWait : (s.endScript).seqWait = s.seqWait := rfl
@[simp] theorem State.endScript_seqTgt : (s.endScript).seqTgt = s.seqTgt := rfl
@[simp] theorem State.endScript_duty0 : (s.endScript).duty0 = s.duty0 := rfl
@[simp] theorem State.endScript_duty1 : (s.endScript).duty1 = s.duty1 := rfl
@[simp] theorem State.endScript_dutyWe0 : (s.endScript).dutyWe0 = s.dutyWe0 := rfl
@[simp] theorem State.endScript_dutyWe1 : (s.endScript).dutyWe1 = s.dutyWe1 := rfl
@[simp] theorem State.endScript_tau : (s.endScript).tau = s.tau := rfl
@[simp] theorem State.endScript_dutyTrace : (s.endScript).dutyTrace = s.dutyTrace := rfl
@[simp] theorem State.endScript_decisions : (s.endScript).decisions = s.decisions := rfl
@[simp] theorem State.endScript_accepted : (s.endScript).accepted = s.accepted := rfl
@[simp] theorem State.endScript_inputs : (s.endScript).inputs = s.inputs := rfl
@[simp] theorem State.endScript_offers : (s.endScript).offers = s.offers := rfl
@[simp] theorem State.endScript_lastStrobe : (s.endScript).lastStrobe = s.lastStrobe := rfl

/-! ### `nextPrim` -/

@[simp] theorem State.nextPrim_mode : (s.nextPrim).mode = s.mode := rfl
@[simp] theorem State.nextPrim_level : (s.nextPrim).level = s.level := rfl
@[simp] theorem State.nextPrim_flickT : (s.nextPrim).flickT = s.flickT := rfl
@[simp] theorem State.nextPrim_fifo : (s.nextPrim).fifo = s.fifo := rfl
@[simp] theorem State.nextPrim_tickPh : (s.nextPrim).tickPh = s.tickPh := rfl
@[simp] theorem State.nextPrim_seqBusy : (s.nextPrim).seqBusy = s.seqBusy := rfl
@[simp] theorem State.nextPrim_seqAnim : (s.nextPrim).seqAnim = s.seqAnim := rfl
@[simp] theorem State.nextPrim_seqPc : (s.nextPrim).seqPc = s.seqPc + 1 := rfl
@[simp] theorem State.nextPrim_seqInr : (s.nextPrim).seqInr = s.seqInr := rfl
@[simp] theorem State.nextPrim_seqVal : (s.nextPrim).seqVal = s.seqVal := rfl
@[simp] theorem State.nextPrim_seqWait : (s.nextPrim).seqWait = s.seqWait := rfl
@[simp] theorem State.nextPrim_seqTgt : (s.nextPrim).seqTgt = s.seqTgt := rfl
@[simp] theorem State.nextPrim_duty0 : (s.nextPrim).duty0 = s.duty0 := rfl
@[simp] theorem State.nextPrim_duty1 : (s.nextPrim).duty1 = s.duty1 := rfl
@[simp] theorem State.nextPrim_dutyWe0 : (s.nextPrim).dutyWe0 = s.dutyWe0 := rfl
@[simp] theorem State.nextPrim_dutyWe1 : (s.nextPrim).dutyWe1 = s.dutyWe1 := rfl
@[simp] theorem State.nextPrim_tau : (s.nextPrim).tau = s.tau := rfl
@[simp] theorem State.nextPrim_dutyTrace : (s.nextPrim).dutyTrace = s.dutyTrace := rfl
@[simp] theorem State.nextPrim_decisions : (s.nextPrim).decisions = s.decisions := rfl
@[simp] theorem State.nextPrim_accepted : (s.nextPrim).accepted = s.accepted := rfl
@[simp] theorem State.nextPrim_inputs : (s.nextPrim).inputs = s.inputs := rfl
@[simp] theorem State.nextPrim_offers : (s.nextPrim).offers = s.offers := rfl
@[simp] theorem State.nextPrim_lastStrobe : (s.nextPrim).lastStrobe = s.lastStrobe := rfl

/-! ### `setWait d` -/

@[simp] theorem State.setWait_mode : (s.setWait d).mode = s.mode := rfl
@[simp] theorem State.setWait_level : (s.setWait d).level = s.level := rfl
@[simp] theorem State.setWait_flickT : (s.setWait d).flickT = s.flickT := rfl
@[simp] theorem State.setWait_fifo : (s.setWait d).fifo = s.fifo := rfl
@[simp] theorem State.setWait_tickPh : (s.setWait d).tickPh = s.tickPh := rfl
@[simp] theorem State.setWait_seqBusy : (s.setWait d).seqBusy = s.seqBusy := rfl
@[simp] theorem State.setWait_seqAnim : (s.setWait d).seqAnim = s.seqAnim := rfl
@[simp] theorem State.setWait_seqPc : (s.setWait d).seqPc = s.seqPc := rfl
@[simp] theorem State.setWait_seqInr : (s.setWait d).seqInr = s.seqInr := rfl
@[simp] theorem State.setWait_seqVal : (s.setWait d).seqVal = s.seqVal := rfl
@[simp] theorem State.setWait_seqWait : (s.setWait d).seqWait = d := rfl
@[simp] theorem State.setWait_seqTgt : (s.setWait d).seqTgt = s.seqTgt := rfl
@[simp] theorem State.setWait_duty0 : (s.setWait d).duty0 = s.duty0 := rfl
@[simp] theorem State.setWait_duty1 : (s.setWait d).duty1 = s.duty1 := rfl
@[simp] theorem State.setWait_dutyWe0 : (s.setWait d).dutyWe0 = s.dutyWe0 := rfl
@[simp] theorem State.setWait_dutyWe1 : (s.setWait d).dutyWe1 = s.dutyWe1 := rfl
@[simp] theorem State.setWait_tau : (s.setWait d).tau = s.tau := rfl
@[simp] theorem State.setWait_dutyTrace : (s.setWait d).dutyTrace = s.dutyTrace := rfl
@[simp] theorem State.setWait_decisions : (s.setWait d).decisions = s.decisions := rfl
@[simp] theorem State.setWait_accepted : (s.setWait d).accepted = s.accepted := rfl
@[simp] theorem State.setWait_inputs : (s.setWait d).inputs = s.inputs := rfl
@[simp] theorem State.setWait_offers : (s.setWait d).offers = s.offers := rfl
@[simp] theorem State.setWait_lastStrobe : (s.setWait d).lastStrobe = s.lastStrobe := rfl

/-! ### `setRamp inr v` -/

@[simp] theorem State.setRamp_mode : (s.setRamp inr v).mode = s.mode := rfl
@[simp] theorem State.setRamp_level : (s.setRamp inr v).level = s.level := rfl
@[simp] theorem State.setRamp_flickT : (s.setRamp inr v).flickT = s.flickT := rfl
@[simp] theorem State.setRamp_fifo : (s.setRamp inr v).fifo = s.fifo := rfl
@[simp] theorem State.setRamp_tickPh : (s.setRamp inr v).tickPh = s.tickPh := rfl
@[simp] theorem State.setRamp_seqBusy : (s.setRamp inr v).seqBusy = s.seqBusy := rfl
@[simp] theorem State.setRamp_seqAnim : (s.setRamp inr v).seqAnim = s.seqAnim := rfl
@[simp] theorem State.setRamp_seqPc : (s.setRamp inr v).seqPc = s.seqPc := rfl
@[simp] theorem State.setRamp_seqInr : (s.setRamp inr v).seqInr = inr := rfl
@[simp] theorem State.setRamp_seqVal : (s.setRamp inr v).seqVal = v := rfl
@[simp] theorem State.setRamp_seqWait : (s.setRamp inr v).seqWait = s.seqWait := rfl
@[simp] theorem State.setRamp_seqTgt : (s.setRamp inr v).seqTgt = s.seqTgt := rfl
@[simp] theorem State.setRamp_duty0 : (s.setRamp inr v).duty0 = s.duty0 := rfl
@[simp] theorem State.setRamp_duty1 : (s.setRamp inr v).duty1 = s.duty1 := rfl
@[simp] theorem State.setRamp_dutyWe0 : (s.setRamp inr v).dutyWe0 = s.dutyWe0 := rfl
@[simp] theorem State.setRamp_dutyWe1 : (s.setRamp inr v).dutyWe1 = s.dutyWe1 := rfl
@[simp] theorem State.setRamp_tau : (s.setRamp inr v).tau = s.tau := rfl
@[simp] theorem State.setRamp_dutyTrace : (s.setRamp inr v).dutyTrace = s.dutyTrace := rfl
@[simp] theorem State.setRamp_decisions : (s.setRamp inr v).decisions = s.decisions := rfl
@[simp] theorem State.setRamp_accepted : (s.setRamp inr v).accepted = s.accepted := rfl
@[simp] theorem State.setRamp_inputs : (s.setRamp inr v).inputs = s.inputs := rfl
@[simp] theorem State.setRamp_offers : (s.setRamp inr v).offers = s.offers := rfl
@[simp] theorem State.setRamp_lastStrobe : (s.setRamp inr v).lastStrobe = s.lastStrobe := rfl

/-! ### `setModeLevel m l` -/

@[simp] theorem State.setModeLevel_mode : (s.setModeLevel m l).mode = m := rfl
@[simp] theorem State.setModeLevel_level : (s.setModeLevel m l).level = l := rfl
@[simp] theorem State.setModeLevel_flickT : (s.setModeLevel m l).flickT = s.flickT := rfl
@[simp] theorem State.setModeLevel_fifo : (s.setModeLevel m l).fifo = s.fifo := rfl
@[simp] theorem State.setModeLevel_tickPh : (s.setModeLevel m l).tickPh = s.tickPh := rfl
@[simp] theorem State.setModeLevel_seqBusy : (s.setModeLevel m l).seqBusy = s.seqBusy := rfl
@[simp] theorem State.setModeLevel_seqAnim : (s.setModeLevel m l).seqAnim = s.seqAnim := rfl
@[simp] theorem State.setModeLevel_seqPc : (s.setModeLevel m l).seqPc = s.seqPc := rfl
@[simp] theorem State.setModeLevel_seqInr : (s.setModeLevel m l).seqInr = s.seqInr := rfl
@[simp] theorem State.setModeLevel_seqVal : (s.setModeLevel m l).seqVal = s.seqVal := rfl
@[simp] theorem State.setModeLevel_seqWait : (s.setModeLevel m l).seqWait = s.seqWait := rfl
@[simp] theorem State.setModeLevel_seqTgt : (s.setModeLevel m l).seqTgt = s.seqTgt := rfl
@[simp] theorem State.setModeLevel_duty0 : (s.setModeLevel m l).duty0 = s.duty0 := rfl
@[simp] theorem State.setModeLevel_duty1 : (s.setModeLevel m l).duty1 = s.duty1 := rfl
@[simp] theorem State.setModeLevel_dutyWe0 : (s.setModeLevel m l).dutyWe0 = s.dutyWe0 := rfl
@[simp] theorem State.setModeLevel_dutyWe1 : (s.setModeLevel m l).dutyWe1 = s.dutyWe1 := rfl
@[simp] theorem State.setModeLevel_tau : (s.setModeLevel m l).tau = s.tau := rfl
@[simp] theorem State.setModeLevel_dutyTrace : (s.setModeLevel m l).dutyTrace = s.dutyTrace := rfl
@[simp] theorem State.setModeLevel_decisions : (s.setModeLevel m l).decisions = s.decisions := rfl
@[simp] theorem State.setModeLevel_accepted : (s.setModeLevel m l).accepted = s.accepted := rfl
@[simp] theorem State.setModeLevel_inputs : (s.setModeLevel m l).inputs = s.inputs := rfl
@[simp] theorem State.setModeLevel_offers : (s.setModeLevel m l).offers = s.offers := rfl
@[simp] theorem State.setModeLevel_lastStrobe : (s.setModeLevel m l).lastStrobe = s.lastStrobe := rfl

/-! ### `nextFlick` -/

@[simp] theorem State.nextFlick_mode : (s.nextFlick).mode = s.mode := rfl
@[simp] theorem State.nextFlick_level : (s.nextFlick).level = s.level := rfl
@[simp] theorem State.nextFlick_flickT : (s.nextFlick).flickT = s.flickT + 1 := rfl
@[simp] theorem State.nextFlick_fifo : (s.nextFlick).fifo = s.fifo := rfl
@[simp] theorem State.nextFlick_tickPh : (s.nextFlick).tickPh = s.tickPh := rfl
@[simp] theorem State.nextFlick_seqBusy : (s.nextFlick).seqBusy = s.seqBusy := rfl
@[simp] theorem State.nextFlick_seqAnim : (s.nextFlick).seqAnim = s.seqAnim := rfl
@[simp] theorem State.nextFlick_seqPc : (s.nextFlick).seqPc = s.seqPc := rfl
@[simp] theorem State.nextFlick_seqInr : (s.nextFlick).seqInr = s.seqInr := rfl
@[simp] theorem State.nextFlick_seqVal : (s.nextFlick).seqVal = s.seqVal := rfl
@[simp] theorem State.nextFlick_seqWait : (s.nextFlick).seqWait = s.seqWait := rfl
@[simp] theorem State.nextFlick_seqTgt : (s.nextFlick).seqTgt = s.seqTgt := rfl
@[simp] theorem State.nextFlick_duty0 : (s.nextFlick).duty0 = s.duty0 := rfl
@[simp] theorem State.nextFlick_duty1 : (s.nextFlick).duty1 = s.duty1 := rfl
@[simp] theorem State.nextFlick_dutyWe0 : (s.nextFlick).dutyWe0 = s.dutyWe0 := rfl
@[simp] theorem State.nextFlick_dutyWe1 : (s.nextFlick).dutyWe1 = s.dutyWe1 := rfl
@[simp] theorem State.nextFlick_tau : (s.nextFlick).tau = s.tau := rfl
@[simp] theorem State.nextFlick_dutyTrace : (s.nextFlick).dutyTrace = s.dutyTrace := rfl
@[simp] theorem State.nextFlick_decisions : (s.nextFlick).decisions = s.decisions := rfl
@[simp] theorem State.nextFlick_accepted : (s.nextFlick).accepted = s.accepted := rfl
@[simp] theorem State.nextFlick_inputs : (s.nextFlick).inputs = s.inputs := rfl
@[simp] theorem State.nextFlick_offers : (s.nextFlick).offers = s.offers := rfl
@[simp] theorem State.nextFlick_lastStrobe : (s.nextFlick).lastStrobe = s.lastStrobe := rfl

/-! ### `noteStrobe b` -/

@[simp] theorem State.noteStrobe_mode : (s.noteStrobe b).mode = s.mode := rfl
@[simp] theorem State.noteStrobe_level : (s.noteStrobe b).level = s.level := rfl
@[simp] theorem State.noteStrobe_flickT : (s.noteStrobe b).flickT = s.flickT := rfl
@[simp] theorem State.noteStrobe_fifo : (s.noteStrobe b).fifo = s.fifo := rfl
@[simp] theorem State.noteStrobe_tickPh : (s.noteStrobe b).tickPh = s.tickPh := rfl
@[simp] theorem State.noteStrobe_seqBusy : (s.noteStrobe b).seqBusy = s.seqBusy := rfl
@[simp] theorem State.noteStrobe_seqAnim : (s.noteStrobe b).seqAnim = s.seqAnim := rfl
@[simp] theorem State.noteStrobe_seqPc : (s.noteStrobe b).seqPc = s.seqPc := rfl
@[simp] theorem State.noteStrobe_seqInr : (s.noteStrobe b).seqInr = s.seqInr := rfl
@[simp] theorem State.noteStrobe_seqVal : (s.noteStrobe b).seqVal = s.seqVal := rfl
@[simp] theorem State.noteStrobe_seqWait : (s.noteStrobe b).seqWait = s.seqWait := rfl
@[simp] theorem State.noteStrobe_seqTgt : (s.noteStrobe b).seqTgt = s.seqTgt := rfl
@[simp] theorem State.noteStrobe_duty0 : (s.noteStrobe b).duty0 = s.duty0 := rfl
@[simp] theorem State.noteStrobe_duty1 : (s.noteStrobe b).duty1 = s.duty1 := rfl
@[simp] theorem State.noteStrobe_dutyWe0 : (s.noteStrobe b).dutyWe0 = s.dutyWe0 := rfl
@[simp] theorem State.noteStrobe_dutyWe1 : (s.noteStrobe b).dutyWe1 = s.dutyWe1 := rfl
@[simp] theorem State.noteStrobe_tau : (s.noteStrobe b).tau = s.tau := rfl
@[simp] theorem State.noteStrobe_dutyTrace : (s.noteStrobe b).dutyTrace = s.dutyTrace := rfl
@[simp] theorem State.noteStrobe_decisions : (s.noteStrobe b).decisions = s.decisions := rfl
@[simp] theorem State.noteStrobe_accepted : (s.noteStrobe b).accepted = s.accepted := rfl
@[simp] theorem State.noteStrobe_inputs : (s.noteStrobe b).inputs = s.inputs := rfl
@[simp] theorem State.noteStrobe_offers : (s.noteStrobe b).offers = s.offers := rfl
@[simp] theorem State.noteStrobe_lastStrobe : (s.noteStrobe b).lastStrobe = b := rfl

/-! ### `nextInput` -/

@[simp] theorem State.nextInput_mode : (s.nextInput).mode = s.mode := rfl
@[simp] theorem State.nextInput_level : (s.nextInput).level = s.level := rfl
@[simp] theorem State.nextInput_flickT : (s.nextInput).flickT = s.flickT := rfl
@[simp] theorem State.nextInput_fifo : (s.nextInput).fifo = s.fifo := rfl
@[simp] theorem State.nextInput_tickPh : (s.nextInput).tickPh = s.tickPh := rfl
@[simp] theorem State.nextInput_seqBusy : (s.nextInput).seqBusy = s.seqBusy := rfl
@[simp] theorem State.nextInput_seqAnim : (s.nextInput).seqAnim = s.seqAnim := rfl
@[simp] theorem State.nextInput_seqPc : (s.nextInput).seqPc = s.seqPc := rfl
@[simp] theorem State.nextInput_seqInr : (s.nextInput).seqInr = s.seqInr := rfl
@[simp] theorem State.nextInput_seqVal : (s.nextInput).seqVal = s.seqVal := rfl
@[simp] theorem State.nextInput_seqWait : (s.nextInput).seqWait = s.seqWait := rfl
@[simp] theorem State.nextInput_seqTgt : (s.nextInput).seqTgt = s.seqTgt := rfl
@[simp] theorem State.nextInput_duty0 : (s.nextInput).duty0 = s.duty0 := rfl
@[simp] theorem State.nextInput_duty1 : (s.nextInput).duty1 = s.duty1 := rfl
@[simp] theorem State.nextInput_dutyWe0 : (s.nextInput).dutyWe0 = s.dutyWe0 := rfl
@[simp] theorem State.nextInput_dutyWe1 : (s.nextInput).dutyWe1 = s.dutyWe1 := rfl
@[simp] theorem State.nextInput_tau : (s.nextInput).tau = s.tau := rfl
@[simp] theorem State.nextInput_dutyTrace : (s.nextInput).dutyTrace = s.dutyTrace := rfl
@[simp] theorem State.nextInput_decisions : (s.nextInput).decisions = s.decisions := rfl
@[simp] theorem State.nextInput_accepted : (s.nextInput).accepted = s.accepted := rfl
@[simp] theorem State.nextInput_inputs : (s.nextInput).inputs = s.inputs.tail := rfl
@[simp] theorem State.nextInput_offers : (s.nextInput).offers = s.offers := rfl
@[simp] theorem State.nextInput_lastStrobe : (s.nextInput).lastStrobe = s.lastStrobe := rfl

/-! ### `nextOffer` -/

@[simp] theorem State.nextOffer_mode : (s.nextOffer).mode = s.mode := rfl
@[simp] theorem State.nextOffer_level : (s.nextOffer).level = s.level := rfl
@[simp] theorem State.nextOffer_flickT : (s.nextOffer).flickT = s.flickT := rfl
@[simp] theorem State.nextOffer_fifo : (s.nextOffer).fifo = s.fifo := rfl
@[simp] theorem State.nextOffer_tickPh : (s.nextOffer).tickPh = s.tickPh := rfl
@[simp] theorem State.nextOffer_seqBusy : (s.nextOffer).seqBusy = s.seqBusy := rfl
@[simp] theorem State.nextOffer_seqAnim : (s.nextOffer).seqAnim = s.seqAnim := rfl
@[simp] theorem State.nextOffer_seqPc : (s.nextOffer).seqPc = s.seqPc := rfl
@[simp] theorem State.nextOffer_seqInr : (s.nextOffer).seqInr = s.seqInr := rfl
@[simp] theorem State.nextOffer_seqVal : (s.nextOffer).seqVal = s.seqVal := rfl
@[simp] theorem State.nextOffer_seqWait : (s.nextOffer).seqWait = s.seqWait := rfl
@[simp] theorem State.nextOffer_seqTgt : (s.nextOffer).seqTgt = s.seqTgt := rfl
@[simp] theorem State.nextOffer_duty0 : (s.nextOffer).duty0 = s.duty0 := rfl
@[simp] theorem State.nextOffer_duty1 : (s.nextOffer).duty1 = s.duty1 := rfl
@[simp] theorem State.nextOffer_dutyWe0 : (s.nextOffer).dutyWe0 = s.dutyWe0 := rfl
@[simp] theorem State.nextOffer_dutyWe1 : (s.nextOffer).dutyWe1 = s.dutyWe1 := rfl
@[simp] theorem State.nextOffer_tau : (s.nextOffer).tau = s.tau := rfl
@[simp] theorem State.nextOffer_dutyTrace : (s.nextOffer).dutyTrace = s.dutyTrace := rfl
@[simp] theorem State.nextOffer_decisions : (s.nextOffer).decisions = s.decisions := rfl
@[simp] theorem State.nextOffer_accepted : (s.nextOffer).accepted = s.accepted := rfl
@[simp] theorem State.nextOffer_inputs : (s.nextOffer).inputs = s.inputs := rfl
@[simp] theorem State.nextOffer_offers : (s.nextOffer).offers = s.offers.tail := rfl
@[simp] theorem State.nextOffer_lastStrobe : (s.nextOffer).lastStrobe = s.lastStrobe := rfl

/-! ### `advancePhase` -/

@[simp] theorem State.advancePhase_mode : (s.advancePhase).mode = s.mode := rfl
@[simp] theorem State.advancePhase_level : (s.advancePhase).level = s.level := rfl
@[simp] theorem State.advancePhase_flickT : (s.advancePhase).flickT = s.flickT := rfl
@[simp] theorem State.advancePhase_fifo : (s.advancePhase).fifo = s.fifo := rfl
@[simp] theorem State.advancePhase_tickPh : (s.advancePhase).tickPh = BitVec.ofNat 4 ((s.tickPh.toNat + 1) % Config.tickMs) := rfl
@[simp] theorem State.advancePhase_seqBusy : (s.advancePhase).seqBusy = s.seqBusy := rfl
@[simp] theorem State.advancePhase_seqAnim : (s.advancePhase).seqAnim = s.seqAnim := rfl
@[simp] theorem State.advancePhase_seqPc : (s.advancePhase).seqPc = s.seqPc := rfl
@[simp] theorem State.advancePhase_seqInr : (s.advancePhase).seqInr = s.seqInr := rfl
@[simp] theorem State.advancePhase_seqVal : (s.advancePhase).seqVal = s.seqVal := rfl
@[simp] theorem State.advancePhase_seqWait : (s.advancePhase).seqWait = s.seqWait := rfl
@[simp] theorem State.advancePhase_seqTgt : (s.advancePhase).seqTgt = s.seqTgt := rfl
@[simp] theorem State.advancePhase_duty0 : (s.advancePhase).duty0 = s.duty0 := rfl
@[simp] theorem State.advancePhase_duty1 : (s.advancePhase).duty1 = s.duty1 := rfl
@[simp] theorem State.advancePhase_dutyWe0 : (s.advancePhase).dutyWe0 = s.dutyWe0 := rfl
@[simp] theorem State.advancePhase_dutyWe1 : (s.advancePhase).dutyWe1 = s.dutyWe1 := rfl
@[simp] theorem State.advancePhase_tau : (s.advancePhase).tau = s.tau := rfl
@[simp] theorem State.advancePhase_dutyTrace : (s.advancePhase).dutyTrace = s.dutyTrace := rfl
@[simp] theorem State.advancePhase_decisions : (s.advancePhase).decisions = s.decisions := rfl
@[simp] theorem State.advancePhase_accepted : (s.advancePhase).accepted = s.accepted := rfl
@[simp] theorem State.advancePhase_inputs : (s.advancePhase).inputs = s.inputs := rfl
@[simp] theorem State.advancePhase_offers : (s.advancePhase).offers = s.offers := rfl
@[simp] theorem State.advancePhase_lastStrobe : (s.advancePhase).lastStrobe = s.lastStrobe := rfl

/-! ### `endAction` -/

@[simp] theorem State.endAction_mode : (s.endAction).mode = s.mode := rfl
@[simp] theorem State.endAction_level : (s.endAction).level = s.level := rfl
@[simp] theorem State.endAction_flickT : (s.endAction).flickT = s.flickT := rfl
@[simp] theorem State.endAction_fifo : (s.endAction).fifo = s.fifo := rfl
@[simp] theorem State.endAction_tickPh : (s.endAction).tickPh = s.tickPh := rfl
@[simp] theorem State.endAction_seqBusy : (s.endAction).seqBusy = s.seqBusy := rfl
@[simp] theorem State.endAction_seqAnim : (s.endAction).seqAnim = s.seqAnim := rfl
@[simp] theorem State.endAction_seqPc : (s.endAction).seqPc = s.seqPc := rfl
@[simp] theorem State.endAction_seqInr : (s.endAction).seqInr = s.seqInr := rfl
@[simp] theorem State.endAction_seqVal : (s.endAction).seqVal = s.seqVal := rfl
@[simp] theorem State.endAction_seqWait : (s.endAction).seqWait = s.seqWait := rfl
@[simp] theorem State.endAction_seqTgt : (s.endAction).seqTgt = s.seqTgt := rfl
@[simp] theorem State.endAction_duty0 : (s.endAction).duty0 = s.duty0 := rfl
@[simp] theorem State.endAction_duty1 : (s.endAction).duty1 = s.duty1 := rfl
@[simp] theorem State.endAction_dutyWe0 : (s.endAction).dutyWe0 = s.dutyWe0 := rfl
@[simp] theorem State.endAction_dutyWe1 : (s.endAction).dutyWe1 = s.dutyWe1 := rfl
@[simp] theorem State.endAction_tau : (s.endAction).tau = s.tau + 1 := rfl
@[simp] theorem State.endAction_dutyTrace : (s.endAction).dutyTrace = s.dutyTrace := rfl
@[simp] theorem State.endAction_decisions : (s.endAction).decisions = s.decisions ++ [⟨s.tau, s.mode, s.level⟩] := rfl
@[simp] theorem State.endAction_accepted : (s.endAction).accepted = s.accepted := rfl
@[simp] theorem State.endAction_inputs : (s.endAction).inputs = s.inputs := rfl
@[simp] theorem State.endAction_offers : (s.endAction).offers = s.offers := rfl
@[simp] theorem State.endAction_lastStrobe : (s.endAction).lastStrobe = s.lastStrobe := rfl

/-! ### `resetEdge` -/

@[simp] theorem State.resetEdge_mode : (s.resetEdge).mode = .powerOff := rfl
@[simp] theorem State.resetEdge_level : (s.resetEdge).level = 5 := rfl
@[simp] theorem State.resetEdge_flickT : (s.resetEdge).flickT = 0 := rfl
@[simp] theorem State.resetEdge_fifo : (s.resetEdge).fifo = [] := rfl
@[simp] theorem State.resetEdge_tickPh : (s.resetEdge).tickPh = 0 := rfl
@[simp] theorem State.resetEdge_seqBusy : (s.resetEdge).seqBusy = false := rfl
@[simp] theorem State.resetEdge_seqAnim : (s.resetEdge).seqAnim = .off := rfl
@[simp] theorem State.resetEdge_seqPc : (s.resetEdge).seqPc = 0 := rfl
@[simp] theorem State.resetEdge_seqInr : (s.resetEdge).seqInr = false := rfl
@[simp] theorem State.resetEdge_seqVal : (s.resetEdge).seqVal = 0 := rfl
@[simp] theorem State.resetEdge_seqWait : (s.resetEdge).seqWait = 0 := rfl
@[simp] theorem State.resetEdge_seqTgt : (s.resetEdge).seqTgt = 0 := rfl
@[simp] theorem State.resetEdge_duty0 : (s.resetEdge).duty0 = 0 := rfl
@[simp] theorem State.resetEdge_duty1 : (s.resetEdge).duty1 = 0 := rfl
@[simp] theorem State.resetEdge_dutyWe0 : (s.resetEdge).dutyWe0 = false := rfl
@[simp] theorem State.resetEdge_dutyWe1 : (s.resetEdge).dutyWe1 = false := rfl
@[simp] theorem State.resetEdge_tau : (s.resetEdge).tau = 0 := rfl
@[simp] theorem State.resetEdge_dutyTrace : (s.resetEdge).dutyTrace = [] := rfl
@[simp] theorem State.resetEdge_decisions : (s.resetEdge).decisions = [] := rfl
@[simp] theorem State.resetEdge_accepted : (s.resetEdge).accepted = [] := rfl
@[simp] theorem State.resetEdge_inputs : (s.resetEdge).inputs = s.inputs := rfl
@[simp] theorem State.resetEdge_offers : (s.resetEdge).offers = s.offers := rfl
@[simp] theorem State.resetEdge_lastStrobe : (s.resetEdge).lastStrobe = false := rfl

/-! ### `writeChannel` -/

@[simp] theorem State.writeChannel_mode : (s.writeChannel ch v).mode = s.mode := by cases ch <;> rfl
@[simp] theorem State.writeChannel_level : (s.writeChannel ch v).level = s.level := by cases ch <;> rfl
@[simp] theorem State.writeChannel_flickT : (s.writeChannel ch v).flickT = s.flickT := by cases ch <;> rfl
@[simp] theorem State.writeChannel_fifo : (s.writeChannel ch v).fifo = s.fifo := by cases ch <;> rfl
@[simp] theorem State.writeChannel_tickPh : (s.writeChannel ch v).tickPh = s.tickPh := by cases ch <;> rfl
@[simp] theorem State.writeChannel_seqBusy : (s.writeChannel ch v).seqBusy = s.seqBusy := by cases ch <;> rfl
@[simp] theorem State.writeChannel_seqAnim : (s.writeChannel ch v).seqAnim = s.seqAnim := by cases ch <;> rfl
@[simp] theorem State.writeChannel_seqPc : (s.writeChannel ch v).seqPc = s.seqPc := by cases ch <;> rfl
@[simp] theorem State.writeChannel_seqInr : (s.writeChannel ch v).seqInr = s.seqInr := by cases ch <;> rfl
@[simp] theorem State.writeChannel_seqVal : (s.writeChannel ch v).seqVal = s.seqVal := by cases ch <;> rfl
@[simp] theorem State.writeChannel_seqWait : (s.writeChannel ch v).seqWait = s.seqWait := by cases ch <;> rfl
@[simp] theorem State.writeChannel_seqTgt : (s.writeChannel ch v).seqTgt = s.seqTgt := by cases ch <;> rfl
@[simp] theorem State.writeChannel_tau : (s.writeChannel ch v).tau = s.tau := by cases ch <;> rfl
@[simp] theorem State.writeChannel_dutyTrace : (s.writeChannel ch v).dutyTrace = s.dutyTrace ++ [⟨s.tau, ch, v⟩] := by cases ch <;> rfl
@[simp] theorem State.writeChannel_decisions : (s.writeChannel ch v).decisions = s.decisions := by cases ch <;> rfl
@[simp] theorem State.writeChannel_accepted : (s.writeChannel ch v).accepted = s.accepted := by cases ch <;> rfl
@[simp] theorem State.writeChannel_inputs : (s.writeChannel ch v).inputs = s.inputs := by cases ch <;> rfl
@[simp] theorem State.writeChannel_offers : (s.writeChannel ch v).offers = s.offers := by cases ch <;> rfl
@[simp] theorem State.writeChannel_lastStrobe : (s.writeChannel ch v).lastStrobe = s.lastStrobe := by cases ch <;> rfl

/-! ### `write`: what is not an output keeps its value -/

@[simp] theorem State.write_mode : (s.write chs v).mode = s.mode := by
  induction chs generalizing s with
  | nil => rfl
  | cons c cs ih => simp [State.write, ih]
@[simp] theorem State.write_level : (s.write chs v).level = s.level := by
  induction chs generalizing s with
  | nil => rfl
  | cons c cs ih => simp [State.write, ih]
@[simp] theorem State.write_flickT : (s.write chs v).flickT = s.flickT := by
  induction chs generalizing s with
  | nil => rfl
  | cons c cs ih => simp [State.write, ih]
@[simp] theorem State.write_fifo : (s.write chs v).fifo = s.fifo := by
  induction chs generalizing s with
  | nil => rfl
  | cons c cs ih => simp [State.write, ih]
@[simp] theorem State.write_tickPh : (s.write chs v).tickPh = s.tickPh := by
  induction chs generalizing s with
  | nil => rfl
  | cons c cs ih => simp [State.write, ih]
@[simp] theorem State.write_seqBusy : (s.write chs v).seqBusy = s.seqBusy := by
  induction chs generalizing s with
  | nil => rfl
  | cons c cs ih => simp [State.write, ih]
@[simp] theorem State.write_seqAnim : (s.write chs v).seqAnim = s.seqAnim := by
  induction chs generalizing s with
  | nil => rfl
  | cons c cs ih => simp [State.write, ih]
@[simp] theorem State.write_seqPc : (s.write chs v).seqPc = s.seqPc := by
  induction chs generalizing s with
  | nil => rfl
  | cons c cs ih => simp [State.write, ih]
@[simp] theorem State.write_seqInr : (s.write chs v).seqInr = s.seqInr := by
  induction chs generalizing s with
  | nil => rfl
  | cons c cs ih => simp [State.write, ih]
@[simp] theorem State.write_seqVal : (s.write chs v).seqVal = s.seqVal := by
  induction chs generalizing s with
  | nil => rfl
  | cons c cs ih => simp [State.write, ih]
@[simp] theorem State.write_seqWait : (s.write chs v).seqWait = s.seqWait := by
  induction chs generalizing s with
  | nil => rfl
  | cons c cs ih => simp [State.write, ih]
@[simp] theorem State.write_seqTgt : (s.write chs v).seqTgt = s.seqTgt := by
  induction chs generalizing s with
  | nil => rfl
  | cons c cs ih => simp [State.write, ih]
@[simp] theorem State.write_tau : (s.write chs v).tau = s.tau := by
  induction chs generalizing s with
  | nil => rfl
  | cons c cs ih => simp [State.write, ih]
@[simp] theorem State.write_decisions : (s.write chs v).decisions = s.decisions := by
  induction chs generalizing s with
  | nil => rfl
  | cons c cs ih => simp [State.write, ih]
@[simp] theorem State.write_accepted : (s.write chs v).accepted = s.accepted := by
  induction chs generalizing s with
  | nil => rfl
  | cons c cs ih => simp [State.write, ih]
@[simp] theorem State.write_inputs : (s.write chs v).inputs = s.inputs := by
  induction chs generalizing s with
  | nil => rfl
  | cons c cs ih => simp [State.write, ih]
@[simp] theorem State.write_offers : (s.write chs v).offers = s.offers := by
  induction chs generalizing s with
  | nil => rfl
  | cons c cs ih => simp [State.write, ih]
@[simp] theorem State.write_lastStrobe : (s.write chs v).lastStrobe = s.lastStrobe := by
  induction chs generalizing s with
  | nil => rfl
  | cons c cs ih => simp [State.write, ih]

end Sys2Proof.Machine
end

