-- ==== Sys2Proof/Laws/Outputs.lean ====
section
/-! SUPPORT. What the operations that write duty values do to the outputs, in terms of `WritesApplied`. -/

namespace Sys2Proof.Machine

/-! ### `lastPct` -/

@[simp] theorem lastPct_nil (ch : Channel) (v : Pct) : lastPct [] ch v = v := rfl

@[simp] theorem lastPct_cons (r : DutyRecord) (recs : List DutyRecord) (ch : Channel) (v : Pct) :
    lastPct (r :: recs) ch v = lastPct recs ch (if r.ch = ch then r.pct else v) := rfl

theorem lastPct_append (a b : List DutyRecord) (ch : Channel) (v : Pct) :
    lastPct (a ++ b) ch v = lastPct b ch (lastPct a ch v) := by simp [lastPct]

/-- A channel shows what it showed or a value written. -/
theorem lastPct_le (recs : List DutyRecord) (ch : Channel) (v bound : Pct) (hv : v ≤ bound)
    (hr : ∀ r ∈ recs, r.pct ≤ bound) : lastPct recs ch v ≤ bound := by
  induction recs generalizing v with
  | nil => exact hv
  | cons r rs ih =>
    refine ih _ ?_ fun q hq => hr q (List.mem_cons_of_mem _ hq)
    show (if r.ch = ch then r.pct else v) ≤ bound
    split
    · exact hr r List.mem_cons_self
    · exact hv

/-! ### `WritesApplied` -/

theorem WritesApplied.refl (s : State) : WritesApplied [] s s := by simp [WritesApplied]

theorem WritesApplied.trans {a b : List DutyRecord} {s t u : State} (h : WritesApplied a s t) (k : WritesApplied b t u) :
    WritesApplied (a ++ b) s u := by
  obtain ⟨h1, h2, h3, h4, h5⟩ := h
  obtain ⟨k1, k2, k3, k4, k5⟩ := k
  refine ⟨?_, ?_, ?_, ?_, ?_⟩
  · rw [k1, h1, List.append_assoc]
  · rw [k2, h2, lastPct_append]
  · rw [k3, h3, lastPct_append]
  · rw [k4, h4, List.any_append, Bool.or_assoc]
  · rw [k5, h5, List.any_append, Bool.or_assoc]

theorem writeChannel_writesApplied (s : State) (ch : Channel) (v : Pct) :
    WritesApplied [⟨s.tau, ch, v⟩] s (s.writeChannel ch v) := by
  cases ch <;> simp [WritesApplied, State.writeChannel]

/-- `Write(chs, v)` writes `v` to each channel of the list, in order, at the current strobe (41_sequencer.md R141). -/
theorem write_writesApplied (s : State) (chs : List Channel) (v : Pct) :
    WritesApplied (chs.map fun ch => ⟨s.tau, ch, v⟩) s (s.write chs v) := by
  induction chs generalizing s with
  | nil => exact .refl s
  | cons ch cs ih =>
    have h := (writeChannel_writesApplied s ch v).trans (ih (s.writeChannel ch v))
    simpa [State.write] using h

/-- `WritesApplied` reads the outputs only. -/
theorem WritesApplied.congr {recs : List DutyRecord} {s s' t t' : State} (h : WritesApplied recs s t)
    (s1 : s'.dutyTrace = s.dutyTrace) (s2 : s'.duty0 = s.duty0) (s3 : s'.duty1 = s.duty1)
    (s4 : s'.dutyWe0 = s.dutyWe0) (s5 : s'.dutyWe1 = s.dutyWe1)
    (t1 : t'.dutyTrace = t.dutyTrace) (t2 : t'.duty0 = t.duty0) (t3 : t'.duty1 = t.duty1)
    (t4 : t'.dutyWe0 = t.dutyWe0) (t5 : t'.dutyWe1 = t.dutyWe1) : WritesApplied recs s' t' := by
  unfold WritesApplied
  rw [s1, s2, s3, s4, s5, t1, t2, t3, t4, t5]
  exact h

/-- The flicker step writes `FLICK[flick_t]` to both channels, channel 0 first (42_flicker.md R181). -/
theorem flickerStep_writesApplied (s : State) :
    WritesApplied [⟨s.tau, .ch0, flick s.flickT⟩, ⟨s.tau, .ch1, flick s.flickT⟩] s (flickerStep s) :=
  (write_writesApplied s both (flick s.flickT)).congr rfl rfl rfl rfl rfl rfl rfl rfl rfl rfl

end Sys2Proof.Machine
end

