-- ==== Sys2Proof/Laws/Flicker.lean ====
section
/-! SUPPORT. What the flicker step never changes (42_flicker.md R181), and that every ROM entry is a percentage (R185). The
entries of a row are checked 64 at once: a byte below 128 is at most 100 when adding 27 to it leaves it below 128. -/

namespace Sys2Proof.Machine

@[simp] theorem flickerStep_mode (s : State) : (flickerStep s).mode = s.mode := by simp [flickerStep]
@[simp] theorem flickerStep_level (s : State) : (flickerStep s).level = s.level := by simp [flickerStep]
@[simp] theorem flickerStep_flickT (s : State) : (flickerStep s).flickT = s.flickT + 1 := by simp [flickerStep]
@[simp] theorem flickerStep_fifo (s : State) : (flickerStep s).fifo = s.fifo := by simp [flickerStep]
@[simp] theorem flickerStep_tickPh (s : State) : (flickerStep s).tickPh = s.tickPh := by simp [flickerStep]
@[simp] theorem flickerStep_seqBusy (s : State) : (flickerStep s).seqBusy = s.seqBusy := by simp [flickerStep]
@[simp] theorem flickerStep_seqAnim (s : State) : (flickerStep s).seqAnim = s.seqAnim := by simp [flickerStep]
@[simp] theorem flickerStep_seqPc (s : State) : (flickerStep s).seqPc = s.seqPc := by simp [flickerStep]
@[simp] theorem flickerStep_seqInr (s : State) : (flickerStep s).seqInr = s.seqInr := by simp [flickerStep]
@[simp] theorem flickerStep_seqVal (s : State) : (flickerStep s).seqVal = s.seqVal := by simp [flickerStep]
@[simp] theorem flickerStep_seqWait (s : State) : (flickerStep s).seqWait = s.seqWait := by simp [flickerStep]
@[simp] theorem flickerStep_seqTgt (s : State) : (flickerStep s).seqTgt = s.seqTgt := by simp [flickerStep]
@[simp] theorem flickerStep_tau (s : State) : (flickerStep s).tau = s.tau := by simp [flickerStep]
@[simp] theorem flickerStep_decisions (s : State) : (flickerStep s).decisions = s.decisions := by simp [flickerStep]
@[simp] theorem flickerStep_accepted (s : State) : (flickerStep s).accepted = s.accepted := by simp [flickerStep]
@[simp] theorem flickerStep_inputs (s : State) : (flickerStep s).inputs = s.inputs := by simp [flickerStep]
@[simp] theorem flickerStep_offers (s : State) : (flickerStep s).offers = s.offers := by simp [flickerStep]
@[simp] theorem flickerStep_lastStrobe (s : State) : (flickerStep s).lastStrobe = s.lastStrobe := by simp [flickerStep]

/-! ### Every entry is at most 100 -/

/-- `n` bytes of 128. -/
def highBits : Nat → Nat
  | 0 => 0
  | n + 1 => highBits n * 256 + 128

/-- `n` bytes of 27. -/
def bytes27 : Nat → Nat
  | 0 => 0
  | n + 1 => bytes27 n * 256 + 27

theorem lt_128_of_and {b : Nat} (hb : b < 256) (h : b &&& 128 = 0) : b < 128 := by
  have : ∀ b : Fin 256, b.val &&& 128 = 0 → b.val < 128 := by decide +kernel
  exact this ⟨b, hb⟩ h

theorem low_byte_lt_128 {r n : Nat} (h : r &&& highBits (n + 1) = 0) : r % 256 < 128 := by
  apply lt_128_of_and (Nat.mod_lt _ (by decide))
  have h2 := congrArg (· % 2 ^ 8) h
  simp only [Nat.and_mod_two_pow, Nat.zero_mod] at h2
  have h3 : highBits (n + 1) % 2 ^ 8 = 128 := by rw [highBits]; omega
  rwa [h3] at h2

theorem and_highBits_div {r n : Nat} (h : r &&& highBits (n + 1) = 0) : (r / 256) &&& highBits n = 0 := by
  have h2 : (r &&& highBits (n + 1)) >>> 8 = 0 := by rw [h]; rfl
  have h3 : highBits (n + 1) / 2 ^ 8 = highBits n := by rw [highBits]; omega
  rwa [Nat.shiftRight_and_distrib, Nat.shiftRight_eq_div_pow, Nat.shiftRight_eq_div_pow, h3] at h2

/-- The bytes of a row that passes the two tests are at most 100. -/
theorem bytes_le_100 (n : Nat) : ∀ r : Nat, r &&& highBits n = 0 → (r + bytes27 n) &&& highBits n = 0 →
    ∀ i < n, r / 256 ^ i % 256 ≤ 100 := by
  induction n with
  | zero => intro r _ _ i hi; omega
  | succ n ih =>
    intro r h1 h2 i hi
    have hb := low_byte_lt_128 h1
    have hc := low_byte_lt_128 h2
    have hk : bytes27 (n + 1) = bytes27 n * 256 + 27 := rfl
    rw [hk] at hc h2
    cases i with
    | zero => simp; omega
    | succ i =>
      have h4 := and_highBits_div h2
      have h5 : (r + (bytes27 n * 256 + 27)) / 256 = r / 256 + bytes27 n := by omega
      rw [h5] at h4
      have := ih (r / 256) (and_highBits_div h1) h4 i (by omega)
      rwa [Nat.div_div_eq_div_mul, ← Nat.pow_succ'] at this

/-- The two tests on a row of 64 entries. -/
def rowOk (r : Nat) : Bool :=
  Nat.beq (Nat.land r 0x80808080808080808080808080808080808080808080808080808080808080808080808080808080808080808080808080808080808080808080808080808080) 0
    && Nat.beq (Nat.land (r + 0x1B1B1B1B1B1B1B1B1B1B1B1B1B1B1B1B1B1B1B1B1B1B1B1B1B1B1B1B1B1B1B1B1B1B1B1B1B1B1B1B1B1B1B1B1B1B1B1B1B1B1B1B1B1B1B1B1B1B1B1B1B1B1B1B) 0x80808080808080808080808080808080808080808080808080808080808080808080808080808080808080808080808080808080808080808080808080808080) 0

theorem flickPages_rowOk : (flickPages.all fun p => p.all rowOk) = true := by decide +kernel

theorem rowEntry_le {r : Nat} (h : rowOk r = true) (i : Nat) : rowEntry r i ≤ 100 := by
  have hm : highBits 64 = 0x80808080808080808080808080808080808080808080808080808080808080808080808080808080808080808080808080808080808080808080808080808080 := by decide
  have hk : bytes27 64 = 0x1B1B1B1B1B1B1B1B1B1B1B1B1B1B1B1B1B1B1B1B1B1B1B1B1B1B1B1B1B1B1B1B1B1B1B1B1B1B1B1B1B1B1B1B1B1B1B1B1B1B1B1B1B1B1B1B1B1B1B1B1B1B1B1B := by decide
  unfold rowOk at h
  rw [← hm, ← hk, Bool.and_eq_true] at h
  have := bytes_le_100 64 r (Nat.eq_of_beq_eq_true h.1) (Nat.eq_of_beq_eq_true h.2) (63 - i) (by omega)
  rwa [show (256 : Nat) ^ (63 - i) = 2 ^ (8 * (63 - i)) by rw [Nat.pow_mul], ← Nat.shiftRight_eq_div_pow] at this

theorem flickRow_ok (p k : Nat) : rowOk (flickRow p k) = true := by
  have h := flickPages_rowOk
  rw [List.all_eq_true] at h
  have h0 : rowOk 0 = true := by decide
  unfold flickRow
  rw [List.getD_eq_getElem?_getD, List.getD_eq_getElem?_getD]
  cases hp : flickPages[p]? with
  | none => simpa using h0
  | some page =>
    have hpage := h page (List.mem_of_getElem? hp)
    rw [List.all_eq_true] at hpage
    rw [Option.getD_some]
    cases hk : page[k]? with
    | none => simpa using h0
    | some row => exact hpage row (List.mem_of_getElem? hk)

theorem flick_toNat (t : FlickIndex) :
    (flick t).toNat = rowEntry (flickRow (t.toNat / 1024) (t.toNat / 64 % 16)) (t.toNat % 64) := by
  have := rowEntry_le (flickRow_ok (t.toNat / 1024) (t.toNat / 64 % 16)) (t.toNat % 64)
  unfold flick
  rw [BitVec.toNat_ofNat, Nat.mod_eq_of_lt (by omega)]

/-- Every entry of the ROM is at most 100 (42_flicker.md R185). -/
theorem flick_le_100 (t : FlickIndex) : flick t ≤ 100 := by
  rw [BitVec.le_def, flick_toNat]
  exact rowEntry_le (flickRow_ok _ _) _

/-! ### The ROM as one list -/

/-- The 64 entries of a row, in index order. -/
def rowEntries (r : Nat) : List Nat := (List.range 64).map (rowEntry r)

theorem flickPages_shape : flickPages.length = 64 ∧ (flickPages.all fun p => p.length == 16) = true := by decide +kernel

/-- Blocks of `k` values, one block after the other, are the values numbered through. -/
theorem flatMap_range_mul {α : Type} (f : Nat → α) (k n : Nat) :
    ((List.range n).flatMap fun i => (List.range k).map fun j => f (i * k + j)) = (List.range (n * k)).map f := by
  induction n with
  | zero => simp
  | succ n ih =>
    rw [List.range_succ, List.flatMap_append, ih, Nat.succ_mul, List.range_add, List.map_append, List.map_map]
    simp [Function.comp_def]

/-- A list is the list of what it has at its indices. -/
theorem map_getD_range {α : Type} (l : List α) (d : α) : ((List.range l.length).map fun i => l.getD i d) = l := by
  apply List.ext_getElem
  · simp
  · intro i h1 h2; simp at h1 ⊢; simp [h1]

/-- The entries of `FLICK` in index order are those of the rows of its pages (43_flicker_rom_0.md R200 to R203). -/
theorem flick_list :
    ((List.range 65536).map fun t => (flick (BitVec.ofNat 16 t)).toNat)
      = flickPages.flatMap fun p => p.flatMap rowEntries := by
  have hpage : ∀ p ∈ flickPages, p.flatMap rowEntries
      = (List.range 1024).map fun j => rowEntry (p.getD (j / 64) 0) (j % 64) := by
    intro p hp
    have hlen : p.length = 16 := by
      have := flickPages_shape.2
      rw [List.all_eq_true] at this
      simpa using this p hp
    conv_lhs => rw [← map_getD_range p 0, hlen, List.flatMap_map]
    rw [show (1024 : Nat) = 16 * 64 by decide, ← flatMap_range_mul]
    apply List.flatMap_congr
    intro i hi
    apply List.map_congr_left
    intro j hj
    have := List.mem_range.mp hj
    rw [show (i * 64 + j) / 64 = i by omega, show (i * 64 + j) % 64 = j by omega]
  rw [List.flatMap_congr hpage]
  conv_rhs => rw [← map_getD_range flickPages [], flickPages_shape.1, List.flatMap_map]
  rw [show (65536 : Nat) = 64 * 1024 by decide, ← flatMap_range_mul]
  apply List.flatMap_congr
  intro i hi
  apply List.map_congr_left
  intro j hj
  have hi := List.mem_range.mp hi
  have hj := List.mem_range.mp hj
  rw [flick_toNat, BitVec.toNat_ofNat, Nat.mod_eq_of_lt (by omega)]
  unfold flickRow
  rw [show (i * 1024 + j) / 1024 = i by omega, show (i * 1024 + j) / 64 % 16 = j / 64 by omega,
    show (i * 1024 + j) % 64 = j % 64 by omega]

/-! ### Counts and sums of a row, without taking it apart -/

/-- `n` bytes of 1. -/
def ones : Nat → Nat
  | 0 => 0
  | n + 1 => ones n * 256 + 1

/-- A number's byte `i`, from the low end. -/
def lowByte (r i : Nat) : Nat := r / 256 ^ i % 256

theorem lowByte_zero (r : Nat) : lowByte r 0 = r % 256 := by simp [lowByte]

theorem lowByte_succ (r i : Nat) : lowByte r (i + 1) = lowByte (r / 256) i := by
  unfold lowByte; rw [Nat.pow_succ', Nat.div_div_eq_div_mul]

/-- The entries of a row are its bytes from the high end. -/
theorem rowEntries_eq (r : Nat) : rowEntries r = ((List.range 64).map (lowByte r)).reverse := by
  apply List.ext_getElem
  · simp [rowEntries]
  · intro i h1 h2
    simp only [rowEntries, List.length_map, List.length_range] at h1
    simp only [rowEntries, List.getElem_map, List.getElem_range, List.getElem_reverse, List.length_map, List.length_range]
    rw [rowEntry, lowByte, Nat.shiftRight_eq_div_pow, Nat.pow_mul, show 64 - 1 - i = 63 - i by omega]

theorem and_append {x y : Nat} (k : Nat) : x &&& y = 2 ^ k * (x / 2 ^ k &&& y / 2 ^ k) + (x % 2 ^ k &&& y % 2 ^ k) := by
  have h1 : (x &&& y) / 2 ^ k = x / 2 ^ k &&& y / 2 ^ k := by
    rw [← Nat.shiftRight_eq_div_pow, Nat.shiftRight_and_distrib, Nat.shiftRight_eq_div_pow, Nat.shiftRight_eq_div_pow]
  have h2 : (x &&& y) % 2 ^ k = x % 2 ^ k &&& y % 2 ^ k := Nat.and_mod_two_pow
  rw [← h1, ← h2, Nat.div_add_mod]

theorem and_128 {b : Nat} (h : b < 256) : b &&& 128 = if 128 ≤ b then 128 else 0 := by
  have : ∀ b : Fin 256, b.val &&& 128 = if 128 ≤ b.val then 128 else 0 := by decide +kernel
  exact this ⟨b, h⟩

/-- How many of the lowest `n` bytes are at least `v`, as the high bits of a sum, each byte below 128. -/
theorem high_bits_mark_ge {v : Nat} (hv : v ≤ 128) (n : Nat) : ∀ r : Nat, r &&& highBits n = 0 →
    ∃ b, (r + (highBits n - v * ones n)) &&& highBits n = 128 * b
      ∧ b % 255 = ((List.range n).map (lowByte r)).countP (v ≤ ·) % 255 := by
  have hle : ∀ n, v * ones n ≤ highBits n := by
    intro n
    induction n with
    | zero => simp [ones, highBits]
    | succ n ih => simp only [ones, highBits]; nlinarith
  induction n with
  | zero => intro r _; exact ⟨0, by simp [highBits], by simp⟩
  | succ n ih =>
    intro r h
    have hb := low_byte_lt_128 h
    obtain ⟨b, h1, h2⟩ := ih (r / 256) (and_highBits_div h)
    have hsum : r + (highBits (n + 1) - v * ones (n + 1))
        = 256 * (r / 256 + (highBits n - v * ones n)) + (r % 256 + (128 - v)) := by
      have := hle n
      have e1 : highBits (n + 1) = highBits n * 256 + 128 := rfl
      have e2 : v * ones (n + 1) = v * ones n * 256 + v := by simp only [ones]; ring
      omega
    have hh : highBits (n + 1) / 2 ^ 8 = highBits n ∧ highBits (n + 1) % 2 ^ 8 = 128 := by
      have e1 : highBits (n + 1) = highBits n * 256 + 128 := rfl
      omega
    refine ⟨256 * b + (if v ≤ r % 256 then 1 else 0), ?_, ?_⟩
    · rw [and_append 8, hh.1, hh.2, hsum,
        show (256 * (r / 256 + (highBits n - v * ones n)) + (r % 256 + (128 - v))) / 2 ^ 8
          = r / 256 + (highBits n - v * ones n) by omega,
        show (256 * (r / 256 + (highBits n - v * ones n)) + (r % 256 + (128 - v))) % 2 ^ 8
          = r % 256 + (128 - v) by omega, h1, and_128 (by omega)]
      split <;> split <;> omega
    · rw [List.range_succ_eq_map, List.map_cons, List.map_map, List.countP_cons]
      have : (lowByte r ∘ Nat.succ) = lowByte (r / 256) := by funext i; exact lowByte_succ r i
      rw [this, lowByte_zero]
      simp only [decide_eq_true_eq]
      split <;> omega

/-- The high bit of each byte of a row. -/
def highMask : Nat :=
  0x80808080808080808080808080808080808080808080808080808080808080808080808080808080808080808080808080808080808080808080808080808080

/-- A one in each byte of a row. -/
def onesMask : Nat :=
  0x01010101010101010101010101010101010101010101010101010101010101010101010101010101010101010101010101010101010101010101010101010101

/-- How many of a row's entries are at least `v`. -/
def rowGe (v r : Nat) : Nat :=
  Nat.mod (Nat.div (Nat.land (Nat.add r (Nat.sub highMask (Nat.mul v onesMask))) highMask) 128) 255

theorem rowGe_eq {v r : Nat} (hv : v ≤ 128) (hr : rowOk r = true) : rowGe v r = (rowEntries r).countP (v ≤ ·) := by
  have hm : highMask = highBits 64 := by decide
  have ho : onesMask = ones 64 := by decide
  have h0 : r &&& highBits 64 = 0 := by
    unfold rowOk at hr
    rw [Bool.and_eq_true] at hr
    rw [← hm]
    exact Nat.eq_of_beq_eq_true hr.1
  obtain ⟨b, h1, h2⟩ := high_bits_mark_ge hv 64 r h0
  have hc : ((List.range 64).map (lowByte r)).countP (v ≤ ·) ≤ 64 := by
    have := List.countP_le_length (p := fun x => decide (v ≤ x)) (l := (List.range 64).map (lowByte r))
    simpa using this
  have : rowGe v r = ((r + (highBits 64 - v * ones 64)) &&& highBits 64) / 128 % 255 := by rw [← hm, ← ho]; rfl
  rw [this, h1, Nat.mul_div_cancel_left b (by decide), h2, rowEntries_eq, List.countP_reverse]
  omega

/-- How often `v` occurs in a row. -/
theorem rowEntries_count {v r : Nat} (hv : v < 128) (hr : rowOk r = true) :
    (rowEntries r).count v + rowGe (v + 1) r = rowGe v r := by
  rw [rowGe_eq (by omega) hr, rowGe_eq (by omega) hr]
  induction rowEntries r with
  | nil => rfl
  | cons a l ih =>
    simp only [List.count_cons, List.countP_cons, beq_iff_eq, decide_eq_true_eq]
    split <;> split <;> split <;> omega

/-- The sum of the lowest `2 n` bytes, as 16-bit digits summed modulo `2^16 - 1`. -/
def loBytes : Nat → Nat
  | 0 => 0
  | n + 1 => loBytes n * 65536 + 255

theorem low_bytes_sum (n : Nat) : ∀ r : Nat,
    ((r &&& loBytes n) + ((r / 256) &&& loBytes n)) % 65535 = ((List.range (2 * n)).map (lowByte r)).sum % 65535 := by
  induction n with
  | zero => intro r; simp [loBytes]
  | succ n ih =>
    intro r
    have hh : loBytes (n + 1) / 2 ^ 16 = loBytes n ∧ loBytes (n + 1) % 2 ^ 16 = 255 := by
      have e1 : loBytes (n + 1) = loBytes n * 65536 + 255 := rfl
      omega
    have h255 : ∀ b : Nat, b &&& 255 = b % 256 := fun b => Nat.and_two_pow_sub_one_eq_mod b 8
    have := ih (r / 65536)
    rw [and_append (x := r) 16, and_append (x := r / 256) 16, hh.1, hh.2, h255, h255]
    rw [show 2 * (n + 1) = 2 * n + 1 + 1 by ring, List.range_succ_eq_map, List.range_succ_eq_map]
    simp only [List.map_cons, List.map_map, List.sum_cons]
    have e2 : (lowByte r ∘ Nat.succ ∘ Nat.succ) = lowByte (r / 65536) := by
      funext i
      show lowByte r (i + 1 + 1) = _
      rw [lowByte_succ, lowByte_succ, Nat.div_div_eq_div_mul]
    rw [e2, lowByte_zero, show Nat.succ 0 = 0 + 1 from rfl, lowByte_succ, lowByte_zero]
    have d1 : r / 2 ^ 16 = r / 65536 := by norm_num
    have d2 : r / 256 / 2 ^ 16 = r / 65536 / 256 := by omega
    have d3 : r % 2 ^ 16 % 256 = r % 256 := by omega
    have d4 : r / 256 % 2 ^ 16 % 256 = r / 256 % 256 := by omega
    rw [d1, d2, d3, d4]
    generalize r / 65536 &&& loBytes n = a at *
    generalize r / 65536 / 256 &&& loBytes n = b at *
    generalize r % 256 = x
    generalize r / 256 % 256 = y
    omega

/-- Every second byte of a row. -/
def loMask : Nat :=
  0x00FF00FF00FF00FF00FF00FF00FF00FF00FF00FF00FF00FF00FF00FF00FF00FF00FF00FF00FF00FF00FF00FF00FF00FF00FF00FF00FF00FF00FF00FF00FF00FF

/-- The sum of a row's entries. -/
def rowSum (r : Nat) : Nat :=
  Nat.mod (Nat.add (Nat.land r loMask) (Nat.land (Nat.div r 256) loMask)) 65535

theorem rowSum_eq {r : Nat} (hr : rowOk r = true) : rowSum r = (rowEntries r).sum := by
  have hm : loMask = loBytes 32 := by decide
  have hsum : (rowEntries r).sum ≤ 6400 := by
    have h : ∀ x ∈ rowEntries r, x ≤ 100 := by
      intro x hx
      obtain ⟨i, _, rfl⟩ := List.mem_map.mp hx
      exact rowEntry_le hr i
    have := List.sum_le_card_nsmul _ _ h
    simpa [rowEntries] using this
  have h := low_bytes_sum 32 r
  rw [← hm] at h
  have e : ((List.range (2 * 32)).map (lowByte r)).sum = (rowEntries r).sum := by rw [rowEntries_eq, List.sum_reverse]
  rw [e] at h
  show ((r &&& loMask) + ((r / 256) &&& loMask)) % 65535 = _
  rw [h]
  omega

end Sys2Proof.Machine
end

