-- ==== Sys2Proof/Laws/Operands.lean ====
section
/-! SUPPORT. What the threshold tests, the target, the level steps, the room test and the legality test say, over the naturals,
so that no proof unfolds a parameter of Config inside a test. -/

namespace Sys2Proof.Machine

/-- `p < 1500` (40_state_machine.md R118). -/
@[simp] theorem isNear_eq_true {p : Prox} : isNear p = true ↔ p.toNat < 1500 := decide_eq_true_iff

@[simp] theorem isNear_eq_false {p : Prox} : isNear p = false ↔ 1500 ≤ p.toNat := by
  rw [← Bool.not_eq_true, isNear_eq_true]; omega

/-- `p > 3500` (R118). -/
@[simp] theorem isFar_eq_true {p : Prox} : isFar p = true ↔ 3500 < p.toNat := decide_eq_true_iff

@[simp] theorem isFar_eq_false {p : Prox} : isFar p = false ↔ p.toNat ≤ 3500 := by
  rw [← Bool.not_eq_true, isFar_eq_true]; omega

/-- `fifo_count < 4` (20_memory.md R52). -/
@[simp] theorem hasRoom_eq_true {s : State} : s.hasRoom = true ↔ s.fifo.length < 4 := decide_eq_true_iff

@[simp] theorem hasRoom_eq_false {s : State} : s.hasRoom = false ↔ 4 ≤ s.fifo.length := by
  rw [← Bool.not_eq_true, hasRoom_eq_true]; omega

/-- `T(level)` is exact on the legal levels (10_state.md R23, 40_state_machine.md R118). -/
theorem target_toNat {l : Level} (h : l.toNat ≤ 9) : (target l).toNat = (l.toNat + 1) * 10 := by
  unfold target; rw [BitVec.toNat_ofNat, Nat.mod_eq_of_lt (by omega)]

theorem target_le {l : Level} (h : l.toNat ≤ 9) : target l ≤ 100 := by
  rw [BitVec.le_def, target_toNat h]; simp; omega

/-- The level goes down above 0 only (R118). -/
theorem weakFrom_mode (l : Level) : (weakFrom l).1 = if 0 < l.toNat then .levelDown else .powerOn := by
  revert l; decide

theorem weakFrom_level (l : Level) : (weakFrom l).2.toNat = l.toNat - 1 := by revert l; decide

/-- The level goes up below 9 only (R118). -/
theorem strongFrom_mode (l : Level) : (strongFrom l).1 = if l.toNat < 9 then .levelUp else .powerOn := by
  revert l; decide

theorem strongFrom_level (l : Level) : (strongFrom l).2.toNat = if l.toNat < 9 then l.toNat + 1 else l.toNat := by
  revert l; decide

/-- The legal states (10_state.md R39). -/
theorem legal_iff {s : State} : s.legal = true ↔
    s.level.toNat ≤ 9 ∧ s.fifo.length ≤ 4 ∧ s.duty0.toNat ≤ 100 ∧ s.duty1.toNat ≤ 100
      ∧ (if s.seqBusy then 1 ≤ s.seqWait.toNat else s.seqWait = 0) := by
  have h4 : decide (s.fifo.length ≤ Config.fifoDepth) = true ↔ s.fifo.length ≤ 4 := decide_eq_true_iff
  have h9 : decide (s.level ≤ Config.levelMax) = true ↔ s.level.toNat ≤ 9 := decide_eq_true_iff
  unfold State.legal
  rw [Bool.and_eq_true, Bool.and_eq_true, Bool.and_eq_true, Bool.and_eq_true, h4, h9]
  cases s.seqBusy <;> simp [BitVec.le_def, and_assoc]

end Sys2Proof.Machine
end

