-- ==== Sys2Proof/Laws/PerInstr.lean ====
section
/-! SUPPORT. The per-instruction family `OpcodeRow`: each instruction's word selects the row of the opcode map that names it
(30_encoding.md R80, R84). -/

namespace Sys2Proof.Laws.OpcodeRow

/-- The word of `i` selects the row with the mnemonic of `i`. -/
def Statement (i : Instr) : Prop := ∃ r ∈ opcodeMap, r.mnemonic = i.mnemonic ∧ r.selectedBy (encode i) = true

theorem pressPower : Statement .pressPower := ⟨⟨"PRESS_POWER", 0x00000, 0x30003⟩, by decide, rfl, by decide⟩
theorem pressWeak : Statement .pressWeak := ⟨⟨"PRESS_WEAK", 0x00001, 0x30003⟩, by decide, rfl, by decide⟩
theorem pressStrong : Statement .pressStrong := ⟨⟨"PRESS_STRONG", 0x00002, 0x30003⟩, by decide, rfl, by decide⟩
theorem pressNikomi : Statement .pressNikomi := ⟨⟨"PRESS_NIKOMI", 0x00003, 0x30003⟩, by decide, rfl, by decide⟩

theorem proxchg (p : Prox) : Statement (.proxchg p) :=
  ⟨⟨"PROXCHG", 0x10000, 0x30000⟩, by decide, rfl, by
    simp only [OpcodeRow.selectedBy, encode, and_tagMask, tagOf_eventWord]; decide⟩

theorem proxcur (p : Prox) : Statement (.proxcur p) :=
  ⟨⟨"PROXCUR", 0x20000, 0x30000⟩, by decide, rfl, by
    simp only [OpcodeRow.selectedBy, encode, and_tagMask, tagOf_eventWord]; decide⟩

theorem reserved : Statement .reserved := ⟨⟨"reserved__Other", 0x30000, 0x30000⟩, by decide, rfl, by decide⟩

end Sys2Proof.Laws.OpcodeRow
end

