-- ==== Sys2Proof/Laws/SequencerFrame.lean ====
section
/-! SUPPORT. The sequencer's frame: what a run of it never changes (41_sequencer.md R146, R148), one lemma per operation and
field. -/

namespace Sys2Proof.Machine

@[simp] theorem rampMove_mode (a b v : Pct) (s : State) : (rampMove a b v s).mode = s.mode := by
  unfold rampMove; split <;> simp
@[simp] theorem rampMove_level (a b v : Pct) (s : State) : (rampMove a b v s).level = s.level := by
  unfold rampMove; split <;> simp
@[simp] theorem rampMove_flickT (a b v : Pct) (s : State) : (rampMove a b v s).flickT = s.flickT := by
  unfold rampMove; split <;> simp
@[simp] theorem rampMove_fifo (a b v : Pct) (s : State) : (rampMove a b v s).fifo = s.fifo := by
  unfold rampMove; split <;> simp
@[simp] theorem rampMove_tickPh (a b v : Pct) (s : State) : (rampMove a b v s).tickPh = s.tickPh := by
  unfold rampMove; split <;> simp
@[simp] theorem rampMove_seqAnim (a b v : Pct) (s : State) : (rampMove a b v s).seqAnim = s.seqAnim := by
  unfold rampMove; split <;> simp
@[simp] theorem rampMove_seqTgt (a b v : Pct) (s : State) : (rampMove a b v s).seqTgt = s.seqTgt := by
  unfold rampMove; split <;> simp
@[simp] theorem rampMove_tau (a b v : Pct) (s : State) : (rampMove a b v s).tau = s.tau := by
  unfold rampMove; split <;> simp
@[simp] theorem rampMove_decisions (a b v : Pct) (s : State) : (rampMove a b v s).decisions = s.decisions := by
  unfold rampMove; split <;> simp
@[simp] theorem rampMove_accepted (a b v : Pct) (s : State) : (rampMove a b v s).accepted = s.accepted := by
  unfold rampMove; split <;> simp
@[simp] theorem rampMove_inputs (a b v : Pct) (s : State) : (rampMove a b v s).inputs = s.inputs := by
  unfold rampMove; split <;> simp
@[simp] theorem rampMove_offers (a b v : Pct) (s : State) : (rampMove a b v s).offers = s.offers := by
  unfold rampMove; split <;> simp
@[simp] theorem rampMove_lastStrobe (a b v : Pct) (s : State) : (rampMove a b v s).lastStrobe = s.lastStrobe := by
  unfold rampMove; split <;> simp

@[simp] theorem rampStep_mode (chs : List Channel) (a b : Pct) (step : Millis) (s : State) :
    (rampStep chs a b step s).mode = s.mode := by simp [rampStep]
@[simp] theorem rampStep_level (chs : List Channel) (a b : Pct) (step : Millis) (s : State) :
    (rampStep chs a b step s).level = s.level := by simp [rampStep]
@[simp] theorem rampStep_flickT (chs : List Channel) (a b : Pct) (step : Millis) (s : State) :
    (rampStep chs a b step s).flickT = s.flickT := by simp [rampStep]
@[simp] theorem rampStep_fifo (chs : List Channel) (a b : Pct) (step : Millis) (s : State) :
    (rampStep chs a b step s).fifo = s.fifo := by simp [rampStep]
@[simp] theorem rampStep_tickPh (chs : List Channel) (a b : Pct) (step : Millis) (s : State) :
    (rampStep chs a b step s).tickPh = s.tickPh := by simp [rampStep]
@[simp] theorem rampStep_seqAnim (chs : List Channel) (a b : Pct) (step : Millis) (s : State) :
    (rampStep chs a b step s).seqAnim = s.seqAnim := by simp [rampStep]
@[simp] theorem rampStep_seqTgt (chs : List Channel) (a b : Pct) (step : Millis) (s : State) :
    (rampStep chs a b step s).seqTgt = s.seqTgt := by simp [rampStep]
@[simp] theorem rampStep_tau (chs : List Channel) (a b : Pct) (step : Millis) (s : State) :
    (rampStep chs a b step s).tau = s.tau := by simp [rampStep]
@[simp] theorem rampStep_decisions (chs : List Channel) (a b : Pct) (step : Millis) (s : State) :
    (rampStep chs a b step s).decisions = s.decisions := by simp [rampStep]
@[simp] theorem rampStep_accepted (chs : List Channel) (a b : Pct) (step : Millis) (s : State) :
    (rampStep chs a b step s).accepted = s.accepted := by simp [rampStep]
@[simp] theorem rampStep_inputs (chs : List Channel) (a b : Pct) (step : Millis) (s : State) :
    (rampStep chs a b step s).inputs = s.inputs := by simp [rampStep]
@[simp] theorem rampStep_offers (chs : List Channel) (a b : Pct) (step : Millis) (s : State) :
    (rampStep chs a b step s).offers = s.offers := by simp [rampStep]
@[simp] theorem rampStep_lastStrobe (chs : List Channel) (a b : Pct) (step : Millis) (s : State) :
    (rampStep chs a b step s).lastStrobe = s.lastStrobe := by simp [rampStep]

@[simp] theorem seqRunFrom_mode (ps : List Prim) (s : State) : (seqRunFrom ps s).mode = s.mode := by
  fun_induction seqRunFrom ps s <;> simp [*]
@[simp] theorem seqRunFrom_level (ps : List Prim) (s : State) : (seqRunFrom ps s).level = s.level := by
  fun_induction seqRunFrom ps s <;> simp [*]
@[simp] theorem seqRunFrom_flickT (ps : List Prim) (s : State) : (seqRunFrom ps s).flickT = s.flickT := by
  fun_induction seqRunFrom ps s <;> simp [*]
@[simp] theorem seqRunFrom_fifo (ps : List Prim) (s : State) : (seqRunFrom ps s).fifo = s.fifo := by
  fun_induction seqRunFrom ps s <;> simp [*]
@[simp] theorem seqRunFrom_tickPh (ps : List Prim) (s : State) : (seqRunFrom ps s).tickPh = s.tickPh := by
  fun_induction seqRunFrom ps s <;> simp [*]
@[simp] theorem seqRunFrom_seqAnim (ps : List Prim) (s : State) : (seqRunFrom ps s).seqAnim = s.seqAnim := by
  fun_induction seqRunFrom ps s <;> simp [*]
@[simp] theorem seqRunFrom_seqTgt (ps : List Prim) (s : State) : (seqRunFrom ps s).seqTgt = s.seqTgt := by
  fun_induction seqRunFrom ps s <;> simp [*]
@[simp] theorem seqRunFrom_tau (ps : List Prim) (s : State) : (seqRunFrom ps s).tau = s.tau := by
  fun_induction seqRunFrom ps s <;> simp [*]
@[simp] theorem seqRunFrom_decisions (ps : List Prim) (s : State) : (seqRunFrom ps s).decisions = s.decisions := by
  fun_induction seqRunFrom ps s <;> simp [*]
@[simp] theorem seqRunFrom_accepted (ps : List Prim) (s : State) : (seqRunFrom ps s).accepted = s.accepted := by
  fun_induction seqRunFrom ps s <;> simp [*]
@[simp] theorem seqRunFrom_inputs (ps : List Prim) (s : State) : (seqRunFrom ps s).inputs = s.inputs := by
  fun_induction seqRunFrom ps s <;> simp [*]
@[simp] theorem seqRunFrom_offers (ps : List Prim) (s : State) : (seqRunFrom ps s).offers = s.offers := by
  fun_induction seqRunFrom ps s <;> simp [*]
@[simp] theorem seqRunFrom_lastStrobe (ps : List Prim) (s : State) : (seqRunFrom ps s).lastStrobe = s.lastStrobe := by
  fun_induction seqRunFrom ps s <;> simp [*]

@[simp] theorem seqRun_mode (s : State) : (seqRun s).mode = s.mode := seqRunFrom_mode _ s
@[simp] theorem seqRun_level (s : State) : (seqRun s).level = s.level := seqRunFrom_level _ s
@[simp] theorem seqRun_flickT (s : State) : (seqRun s).flickT = s.flickT := seqRunFrom_flickT _ s
@[simp] theorem seqRun_fifo (s : State) : (seqRun s).fifo = s.fifo := seqRunFrom_fifo _ s
@[simp] theorem seqRun_tickPh (s : State) : (seqRun s).tickPh = s.tickPh := seqRunFrom_tickPh _ s
@[simp] theorem seqRun_seqAnim (s : State) : (seqRun s).seqAnim = s.seqAnim := seqRunFrom_seqAnim _ s
@[simp] theorem seqRun_seqTgt (s : State) : (seqRun s).seqTgt = s.seqTgt := seqRunFrom_seqTgt _ s
@[simp] theorem seqRun_tau (s : State) : (seqRun s).tau = s.tau := seqRunFrom_tau _ s
@[simp] theorem seqRun_decisions (s : State) : (seqRun s).decisions = s.decisions := seqRunFrom_decisions _ s
@[simp] theorem seqRun_accepted (s : State) : (seqRun s).accepted = s.accepted := seqRunFrom_accepted _ s
@[simp] theorem seqRun_inputs (s : State) : (seqRun s).inputs = s.inputs := seqRunFrom_inputs _ s
@[simp] theorem seqRun_offers (s : State) : (seqRun s).offers = s.offers := seqRunFrom_offers _ s
@[simp] theorem seqRun_lastStrobe (s : State) : (seqRun s).lastStrobe = s.lastStrobe := seqRunFrom_lastStrobe _ s

@[simp] theorem seqStart_mode (anim : Anim) (T : Pct) (s : State) : (seqStart anim T s).mode = s.mode := by
  simp [seqStart]
@[simp] theorem seqStart_level (anim : Anim) (T : Pct) (s : State) : (seqStart anim T s).level = s.level := by
  simp [seqStart]
@[simp] theorem seqStart_flickT (anim : Anim) (T : Pct) (s : State) : (seqStart anim T s).flickT = s.flickT := by
  simp [seqStart]
@[simp] theorem seqStart_fifo (anim : Anim) (T : Pct) (s : State) : (seqStart anim T s).fifo = s.fifo := by
  simp [seqStart]
@[simp] theorem seqStart_tickPh (anim : Anim) (T : Pct) (s : State) : (seqStart anim T s).tickPh = s.tickPh := by
  simp [seqStart]
@[simp] theorem seqStart_seqAnim (anim : Anim) (T : Pct) (s : State) : (seqStart anim T s).seqAnim = anim := by
  simp [seqStart]
@[simp] theorem seqStart_seqTgt (anim : Anim) (T : Pct) (s : State) : (seqStart anim T s).seqTgt = T := by
  simp [seqStart]
@[simp] theorem seqStart_tau (anim : Anim) (T : Pct) (s : State) : (seqStart anim T s).tau = s.tau := by
  simp [seqStart]
@[simp] theorem seqStart_decisions (anim : Anim) (T : Pct) (s : State) : (seqStart anim T s).decisions = s.decisions := by
  simp [seqStart]
@[simp] theorem seqStart_accepted (anim : Anim) (T : Pct) (s : State) : (seqStart anim T s).accepted = s.accepted := by
  simp [seqStart]
@[simp] theorem seqStart_inputs (anim : Anim) (T : Pct) (s : State) : (seqStart anim T s).inputs = s.inputs := by
  simp [seqStart]
@[simp] theorem seqStart_offers (anim : Anim) (T : Pct) (s : State) : (seqStart anim T s).offers = s.offers := by
  simp [seqStart]
@[simp] theorem seqStart_lastStrobe (anim : Anim) (T : Pct) (s : State) : (seqStart anim T s).lastStrobe = s.lastStrobe := by
  simp [seqStart]

@[simp] theorem seqAdvance_mode (s : State) : (seqAdvance s).mode = s.mode := by
  unfold seqAdvance; split <;> (try split) <;> simp
@[simp] theorem seqAdvance_level (s : State) : (seqAdvance s).level = s.level := by
  unfold seqAdvance; split <;> (try split) <;> simp
@[simp] theorem seqAdvance_flickT (s : State) : (seqAdvance s).flickT = s.flickT := by
  unfold seqAdvance; split <;> (try split) <;> simp
@[simp] theorem seqAdvance_fifo (s : State) : (seqAdvance s).fifo = s.fifo := by
  unfold seqAdvance; split <;> (try split) <;> simp
@[simp] theorem seqAdvance_tickPh (s : State) : (seqAdvance s).tickPh = s.tickPh := by
  unfold seqAdvance; split <;> (try split) <;> simp
@[simp] theorem seqAdvance_seqAnim (s : State) : (seqAdvance s).seqAnim = s.seqAnim := by
  unfold seqAdvance; split <;> (try split) <;> simp
@[simp] theorem seqAdvance_seqTgt (s : State) : (seqAdvance s).seqTgt = s.seqTgt := by
  unfold seqAdvance; split <;> (try split) <;> simp
@[simp] theorem seqAdvance_tau (s : State) : (seqAdvance s).tau = s.tau := by
  unfold seqAdvance; split <;> (try split) <;> simp
@[simp] theorem seqAdvance_decisions (s : State) : (seqAdvance s).decisions = s.decisions := by
  unfold seqAdvance; split <;> (try split) <;> simp
@[simp] theorem seqAdvance_accepted (s : State) : (seqAdvance s).accepted = s.accepted := by
  unfold seqAdvance; split <;> (try split) <;> simp
@[simp] theorem seqAdvance_inputs (s : State) : (seqAdvance s).inputs = s.inputs := by
  unfold seqAdvance; split <;> (try split) <;> simp
@[simp] theorem seqAdvance_offers (s : State) : (seqAdvance s).offers = s.offers := by
  unfold seqAdvance; split <;> (try split) <;> simp
@[simp] theorem seqAdvance_lastStrobe (s : State) : (seqAdvance s).lastStrobe = s.lastStrobe := by
  unfold seqAdvance; split <;> (try split) <;> simp

end Sys2Proof.Machine
end

