-- ==== Sys2Proof/Laws/Sequencer.lean ====
section
/-! SUPPORT. What one run of the sequencer does (41_sequencer.md R146): it makes the writes of the present strobe, and what it
leaves to do is what was to do less those writes and the wait it sets. -/

namespace Sys2Proof.Machine

/-! ### Ramps -/

/-- The value after `v` of a ramp towards `b`. -/
def rampNext (v b : Pct) : Pct := if v < b then v + 1 else v - 1

theorem distance_self (v : Pct) : distance v v = 0 := by simp [distance]

theorem rampNext_toNat {v b : Pct} (h : v ≠ b) :
    (rampNext v b).toNat = if v.toNat < b.toNat then v.toNat + 1 else v.toNat - 1 := by
  have hne : v.toNat ≠ b.toNat := fun e => h (BitVec.eq_of_toNat_eq e)
  have hv := v.isLt
  have hb := b.isLt
  unfold rampNext
  simp only [BitVec.lt_def]
  split
  · rw [BitVec.toNat_add]; simp; omega
  · rw [BitVec.toNat_sub]; simp; omega

theorem distance_rampNext {v b : Pct} (h : v ≠ b) : distance v b = distance (rampNext v b) b + 1 := by
  have hne : v.toNat ≠ b.toNat := fun e => h (BitVec.eq_of_toNat_eq e)
  have := rampNext_toNat h
  unfold distance
  split at this <;> omega

theorem rampValue_zero (a b : Pct) : rampValue a b 0 = a := by
  unfold rampValue; split <;> simp

theorem rampValue_succ {a b : Pct} (h : a ≠ b) (k : Nat) (hk : k ≤ distance (rampNext a b) b) :
    rampValue a b (k + 1) = rampValue (rampNext a b) b k := by
  have hne : a.toNat ≠ b.toNat := fun e => h (BitVec.eq_of_toNat_eq e)
  have hn := rampNext_toNat h
  have ha := a.isLt
  have hb := b.isLt
  unfold distance at hk
  apply BitVec.eq_of_toNat_eq
  unfold rampValue
  simp only [BitVec.le_def]
  split at hn
  · rw [if_pos (by omega), if_pos (by omega)]
    simp only [BitVec.toNat_ofNat, hn]
    congr 1; omega
  · rw [if_neg (by omega)]
    split
    · have : k = 0 := by omega
      subst this
      simp only [BitVec.toNat_ofNat, hn]
      congr 1
    · simp only [BitVec.toNat_ofNat, hn]
      congr 1; omega

/-- The writes of a ramp: its first value now, the rest of it one step later (R143). -/
theorem ramp_writes_unfold (start : Nat) (chs : List Channel) {a b : Pct} (step : Millis) (h : a ≠ b) :
    (Prim.ramp chs a b step).writes start
      = (chs.map fun ch => (⟨start, ch, a⟩ : DutyRecord))
        ++ (Prim.ramp chs (rampNext a b) b step).writes (start + step.toNat) := by
  simp only [Prim.writes]
  rw [distance_rampNext h, List.range_succ_eq_map, List.flatMap_cons, List.flatMap_map]
  congr 1
  · simp [rampValue_zero]
  · apply List.flatMap_congr
    intro k hk
    rw [rampValue_succ h k (by have := List.mem_range.mp hk; omega)]
    apply List.map_congr_left
    intro ch _
    congr 1
    rw [Nat.succ_eq_add_one, Nat.add_mul]; omega

theorem ramp_duration_unfold (chs : List Channel) {a b : Pct} (step : Millis) (h : a ≠ b) :
    (Prim.ramp chs a b step).duration = step.toNat + (Prim.ramp chs (rampNext a b) b step).duration := by
  simp only [Prim.duration]
  rw [distance_rampNext h]
  ring

theorem ramp_writes_self (start : Nat) (chs : List Channel) (v : Pct) (step : Millis) :
    (Prim.ramp chs v v step).writes start = chs.map fun ch => (⟨start, ch, v⟩ : DutyRecord) := by
  simp [Prim.writes, distance_self, rampValue_zero]

theorem ramp_duration_self (chs : List Channel) (v : Pct) (step : Millis) :
    (Prim.ramp chs v v step).duration = step.toNat := by simp [Prim.duration, distance_self]

/-! ### Scripts -/

/-- The primitives that wait do so for 5 to 500 milliseconds. -/
def Prim.waitOk : Prim → Prop
  | .set _ _ => True
  | .ramp _ _ _ step => 5 ≤ step.toNat ∧ step.toNat ≤ 500
  | .pause d => 5 ≤ d.toNat ∧ d.toNat ≤ 500

theorem script_length (anim : Anim) (T : Pct) : (script anim T).length ≤ 3 := by cases anim <;> simp [script]

theorem script_waitOk (anim : Anim) (T : Pct) : ∀ p ∈ script anim T, p.waitOk := by
  cases anim <;> simp [script, Prim.waitOk] <;> decide

theorem restOfScript_waitOk {s : State} {p : Prim} {ps : List Prim} (h : s.restOfScript = p :: ps) : p.waitOk := by
  refine script_waitOk s.seqAnim s.seqTgt p (List.mem_of_mem_drop (i := s.seqPc.toNat) ?_)
  rw [show List.drop s.seqPc.toNat (script s.seqAnim s.seqTgt) = p :: ps from h]
  exact List.mem_cons_self

theorem pc_lt_length {s : State} {p : Prim} {ps : List Prim} (h : s.restOfScript = p :: ps) :
    s.seqPc.toNat < (script s.seqAnim s.seqTgt).length := by
  by_contra hge
  rw [State.restOfScript, List.drop_eq_nil_of_le (by omega)] at h
  cases h

theorem pc_succ {s : State} {p : Prim} {ps : List Prim} (h : s.restOfScript = p :: ps) :
    (s.seqPc + 1).toNat = s.seqPc.toNat + 1 := by
  have h1 := pc_lt_length h
  have h2 := script_length s.seqAnim s.seqTgt
  rw [BitVec.toNat_add]
  simp; omega

/-- The step pointer moved on by one leaves the tail of the script. -/
theorem restOfScript_next {s t : State} {p : Prim} {ps : List Prim} (h : s.restOfScript = p :: ps)
    (ha : t.seqAnim = s.seqAnim) (hT : t.seqTgt = s.seqTgt) (hp : t.seqPc = s.seqPc + 1) : t.restOfScript = ps := by
  have h1 := pc_succ h
  unfold State.restOfScript at h ⊢
  rw [ha, hT, hp, h1, ← List.drop_drop, h, List.drop_one, List.tail_cons]

theorem restOfScript_congr {s t : State} (ha : t.seqAnim = s.seqAnim) (hT : t.seqTgt = s.seqTgt)
    (hp : t.seqPc = s.seqPc) : t.restOfScript = s.restOfScript := by
  unfold State.restOfScript; rw [ha, hT, hp]

/-! ### `todo` -/

theorem todo_of_not_begun {s : State} (h : s.seqInr = false) : s.todo = s.restOfScript := by
  unfold State.todo
  split
  · simp_all [rampNow]
  · rfl

theorem todo_ramp {s : State} {chs : List Channel} {a b : Pct} {step : Millis} {ps : List Prim}
    (h : s.restOfScript = .ramp chs a b step :: ps) : s.todo = .ramp chs (rampNow a s) b step :: ps := by
  unfold State.todo; rw [h]

theorem positionOk_of_not_begun {s : State} (hp : s.seqPc.toNat ≤ (script s.seqAnim s.seqTgt).length)
    (h : s.seqInr = false) : s.positionOk = true := by
  unfold State.positionOk
  split <;> simp [hp, h]

theorem positionOk_begun {s : State} {chs : List Channel} {a b : Pct} {step : Millis} {ps : List Prim}
    (h : s.restOfScript = .ramp chs a b step :: ps) (hi : insideRamp a b s.seqVal = true) : s.positionOk = true := by
  unfold State.positionOk
  have := pc_lt_length h
  rw [h]; simp [hi]; omega

theorem not_begun_of_positionOk {s : State} (h : s.positionOk = true)
    (hr : ∀ chs a b step ps, s.restOfScript ≠ .ramp chs a b step :: ps) : s.seqInr = false := by
  unfold State.positionOk at h
  split at h
  · exact absurd ‹_› (hr _ _ _ _ _)
  · simp_all

theorem inside_of_positionOk {s : State} {chs : List Channel} {a b : Pct} {step : Millis} {ps : List Prim}
    (h : s.positionOk = true) (hr : s.restOfScript = .ramp chs a b step :: ps) (hi : s.seqInr = true) :
    insideRamp a b s.seqVal = true := by
  unfold State.positionOk at h
  rw [hr] at h
  simp_all

/-! ### One run of the sequencer -/

/-- A run of the sequencer from `s`, whose rest of script is `ps`, to `t`: the writes it makes are all of this strobe; if it
goes on, it waits 5 to 500 ms, is at a position of its script, and what was to do is those writes, the wait, and what is
to do then; if it ended, it made all the writes there were to make, and nothing had to wait. -/
structure RunOf (s t : State) (recs : List DutyRecord) : Prop where
  writes : WritesApplied recs s t
  now : ∀ r ∈ recs, r.tau = s.tau
  goesOn : t.seqBusy = true → 5 ≤ t.seqWait.toNat ∧ t.seqWait.toNat ≤ 500 ∧ t.positionOk = true
    ∧ timeline s.tau s.todo = recs ++ timeline (s.tau + t.seqWait.toNat) t.todo
    ∧ scriptDuration s.todo = t.seqWait.toNat + scriptDuration t.todo
  ends : t.seqBusy = false → recs = timeline s.tau s.todo ∧ scriptDuration s.todo = 0 ∧ t.seqWait = s.seqWait

theorem insideRamp_ne {a b v : Pct} (h : insideRamp a b v = true) : a ≠ b := by
  rintro rfl
  unfold insideRamp at h
  simp only [BitVec.lt_def, BitVec.le_def] at h
  split at h <;> simp at h <;> omega

/-- The direction of a ramp at one of its values is its own. -/
theorem rampNext_eq {a b v : Pct} (h : v = a ∨ insideRamp a b v = true) (hne : v ≠ b) :
    (if b > a then v + 1 else v - 1) = rampNext v b ∧ insideRamp a b (rampNext v b) = true := by
  have hn := rampNext_toNat hne
  have hneq : v.toNat ≠ b.toNat := fun e => hne (BitVec.eq_of_toNat_eq e)
  have hv := v.isLt
  have hb := b.isLt
  have h' : v.toNat = a.toNat ∨ (if a.toNat < b.toNat then a.toNat < v.toNat ∧ v.toNat ≤ b.toNat
      else b.toNat ≤ v.toNat ∧ v.toNat < a.toNat) := by
    rcases h with rfl | h
    · exact .inl rfl
    · right
      unfold insideRamp at h
      simp only [BitVec.lt_def, BitVec.le_def] at h
      split at h <;> rename_i hc <;> simp [hc] at h ⊢ <;> exact h
  have key : (a.toNat < b.toNat) ↔ (v.toNat < b.toNat) := by
    rcases h' with h' | h'
    · omega
    · split at h' <;> omega
  constructor
  · unfold rampNext
    simp only [gt_iff_lt, BitVec.lt_def, key]
  · unfold insideRamp
    simp only [BitVec.lt_def, BitVec.le_def, hn]
    rcases h' with h' | h'
    · split <;> simp <;> split <;> omega
    · split at h' <;> rename_i hc <;> simp [hc] <;> split <;> omega

theorem rampStep_runOf {s : State} {chs : List Channel} {a b : Pct} {step : Millis} {ps : List Prim}
    (hb : s.seqBusy = true) (hr : s.restOfScript = .ramp chs a b step :: ps) (hp : s.positionOk = true) :
    RunOf s (rampStep chs a b step s) (chs.map fun ch => ⟨s.tau, ch, rampNow a s⟩) := by
  have hw := restOfScript_waitOk hr
  have hv : rampNow a s = a ∨ insideRamp a b (rampNow a s) = true := by
    unfold rampNow
    split
    · exact .inr (inside_of_positionOk hp hr ‹_›)
    · exact .inl rfl
  have htodo := todo_ramp hr
  have hwr := write_writesApplied (s.setRamp true (rampNow a s)) chs (rampNow a s)
  have hpc := pc_succ hr
  have hlt := pc_lt_length hr
  generalize hvv : rampNow a s = v at *
  by_cases hvb : v = b
  · subst hvb
    have hst : rampStep chs a v step s
        = ((((s.setRamp true v).write chs v).setWait step).setRamp false v).nextPrim := by
      simp [rampStep, rampMove, hvv]
    have hrest : (rampStep chs a v step s).restOfScript = ps :=
      restOfScript_next hr (by simp) (by simp) (by simp [hst])
    have hinr : (rampStep chs a v step s).seqInr = false := by simp [hst]
    have hnext : (rampStep chs a v step s).todo = ps := by rw [todo_of_not_begun hinr, hrest]
    refine ⟨?_, by simp, fun _ => ⟨?_, ?_, ?_, ?_, ?_⟩, fun h => ?_⟩
    · exact hwr.congr rfl rfl rfl rfl rfl (by simp [hst]) (by simp [hst]) (by simp [hst]) (by simp [hst]) (by simp [hst])
    · simpa [hst] using hw.1
    · simpa [hst] using hw.2
    · apply positionOk_of_not_begun _ hinr
      rw [rampStep_seqAnim, rampStep_seqTgt]
      simp only [hst, State.nextPrim_seqPc, State.setRamp_seqPc, State.setWait_seqPc, State.write_seqPc]
      omega
    · rw [htodo, hnext, timeline, ramp_writes_self, ramp_duration_self]; simp [hst]
    · rw [htodo, hnext, scriptDuration, ramp_duration_self]; simp [hst]
    · simp [hst, hb] at h
  · obtain ⟨hdir, hin⟩ := rampNext_eq hv hvb
    have hst : rampStep chs a b step s
        = (((s.setRamp true v).write chs v).setWait step).setRamp true (rampNext v b) := by
      simp only [rampStep, rampMove, hvv, if_neg hvb, hdir]
    have hrest : (rampStep chs a b step s).restOfScript = .ramp chs a b step :: ps := by
      rw [restOfScript_congr (s := s) (by simp) (by simp) (by simp [hst]), hr]
    have hnext : (rampStep chs a b step s).todo = .ramp chs (rampNext v b) b step :: ps := by
      rw [todo_ramp hrest]; simp [rampNow, hst]
    refine ⟨?_, by simp, fun _ => ⟨?_, ?_, ?_, ?_, ?_⟩, fun h => ?_⟩
    · exact hwr.congr rfl rfl rfl rfl rfl (by simp [hst]) (by simp [hst]) (by simp [hst]) (by simp [hst]) (by simp [hst])
    · simpa [hst] using hw.1
    · simpa [hst] using hw.2
    · exact positionOk_begun hrest (by simpa [hst] using hin)
    · rw [htodo, hnext, timeline, timeline, ramp_writes_unfold _ _ _ hvb, ramp_duration_unfold _ _ hvb]
      simp [hst, List.append_assoc, Nat.add_assoc]
    · rw [htodo, hnext, scriptDuration, scriptDuration, ramp_duration_unfold _ _ hvb]
      simp [hst, Nat.add_assoc]
    · simp [hst, hb] at h

/-- What `SeqRun` does, from any position of a running script (41_sequencer.md R146). -/
theorem seqRunFrom_runOf (ps : List Prim) (s : State) (hb : s.seqBusy = true) (hr : s.restOfScript = ps)
    (hp : s.positionOk = true) : ∃ recs, RunOf s (seqRunFrom ps s) recs := by
  induction ps generalizing s with
  | nil =>
    have hn : s.seqInr = false := not_begun_of_positionOk hp (by simp [hr])
    have ht : s.todo = [] := by rw [todo_of_not_begun hn, hr]
    refine ⟨[], (WritesApplied.refl s).congr rfl rfl rfl rfl rfl rfl rfl rfl rfl rfl, by simp, fun h => ?_, fun _ => ?_⟩
    · simp [seqRunFrom] at h
    · simp [ht, timeline, scriptDuration, seqRunFrom]
  | cons p ps ih =>
    match p with
    | .ramp chs a b step => exact ⟨_, rampStep_runOf hb hr hp⟩
    | .pause d =>
      have hn : s.seqInr = false := not_begun_of_positionOk hp (by simp [hr])
      have ht : s.todo = .pause d :: ps := by rw [todo_of_not_begun hn, hr]
      have hw := restOfScript_waitOk hr
      have hpc := pc_succ hr
      have hlt := pc_lt_length hr
      have hn' : (s.setWait d).nextPrim.seqInr = false := by simp [hn]
      have ht' : (s.setWait d).nextPrim.todo = ps := by
        rw [todo_of_not_begun hn', restOfScript_next hr (by simp) (by simp) (by simp)]
      refine ⟨[], (WritesApplied.refl s).congr rfl rfl rfl rfl rfl rfl rfl rfl rfl rfl, by simp, fun _ => ?_, fun h => ?_⟩
      · simp only [seqRunFrom]
        refine ⟨by simpa using hw.1, by simpa using hw.2, positionOk_of_not_begun ?_ hn', ?_, ?_⟩
        · simp only [State.nextPrim_seqPc, State.setWait_seqPc, State.nextPrim_seqAnim, State.setWait_seqAnim,
            State.nextPrim_seqTgt, State.setWait_seqTgt]
          omega
        · rw [ht, ht']; simp [timeline, Prim.writes, Prim.duration]
        · rw [ht, ht']; simp [scriptDuration, Prim.duration]
      · simp [seqRunFrom, hb] at h
    | .set chs v =>
      have hn : s.seqInr = false := not_begun_of_positionOk hp (by simp [hr])
      have ht : s.todo = .set chs v :: ps := by rw [todo_of_not_begun hn, hr]
      have hpc := pc_succ hr
      have hlt := pc_lt_length hr
      have hn' : (s.write chs v).nextPrim.seqInr = false := by simp [hn]
      have hr' : (s.write chs v).nextPrim.restOfScript = ps := restOfScript_next hr (by simp) (by simp) (by simp)
      have ht' : (s.write chs v).nextPrim.todo = ps := by rw [todo_of_not_begun hn', hr']
      have hp' : (s.write chs v).nextPrim.positionOk = true := by
        apply positionOk_of_not_begun _ hn'
        simp only [State.nextPrim_seqPc, State.write_seqPc, State.nextPrim_seqAnim, State.write_seqAnim,
          State.nextPrim_seqTgt, State.write_seqTgt]
        omega
      obtain ⟨recs, h1, h2, h3, h4⟩ := ih _ (by simpa using hb) hr' hp'
      have hw : WritesApplied (chs.map fun ch => ⟨s.tau, ch, v⟩) s (s.write chs v).nextPrim :=
        (write_writesApplied s chs v).congr rfl rfl rfl rfl rfl (by simp) (by simp) (by simp) (by simp) (by simp)
      have htl : timeline s.tau s.todo = (chs.map fun ch => ⟨s.tau, ch, v⟩) ++ timeline s.tau ps := by
        rw [ht]; simp [timeline, Prim.writes, Prim.duration]
      have hsd : scriptDuration s.todo = scriptDuration ps := by rw [ht]; simp [scriptDuration, Prim.duration]
      rw [ht'] at h3 h4
      refine ⟨_, hw.trans h1, ?_, fun h => ?_, fun h => ?_⟩
      · intro r hmem
        rcases List.mem_append.mp hmem with hm | hm
        · obtain ⟨_, _, rfl⟩ := List.mem_map.mp hm; rfl
        · simpa using h2 r hm
      · obtain ⟨g1, g2, g3, g4, g5⟩ := h3 h
        refine ⟨g1, g2, g3, ?_, ?_⟩
        · rw [htl, List.append_assoc]
          simpa [seqRunFrom] using g4
        · rw [hsd]; simpa [seqRunFrom] using g5
      · obtain ⟨g1, g2, g3⟩ := h4 h
        refine ⟨?_, by rw [hsd]; exact g2, by simpa [seqRunFrom] using g3⟩
        rw [htl, g1]; simp

theorem seqRun_runOf (s : State) (hb : s.seqBusy = true) (hp : s.positionOk = true) :
    ∃ recs, RunOf s (seqRun s) recs := seqRunFrom_runOf _ s hb rfl hp

/-! ### Waits -/

theorem script_at {s : State} {p : Prim} {ps : List Prim} (h : s.restOfScript = p :: ps) :
    (script s.seqAnim s.seqTgt)[s.seqPc.toNat]? = some p := by
  have := congrArg (fun l : List Prim => l[0]?) h
  simpa [State.restOfScript] using this

/-- Past a primitive that takes time the sequencer is where a wait leads. -/
theorem midScript_next {s t : State} {p : Prim} {ps : List Prim} (h : s.restOfScript = p :: ps) (hw : p.waits = true)
    (ha : t.seqAnim = s.seqAnim) (hT : t.seqTgt = s.seqTgt) (hp : t.seqPc = s.seqPc + 1) : t.midScript = true := by
  have h1 := pc_succ h
  unfold State.midScript
  rw [ha, hT, hp, h1, Nat.add_sub_cancel, script_at h]
  simp [hw]

/-- A run that goes on is where a wait leads (41_sequencer.md R146). -/
theorem seqRunFrom_midScript (ps : List Prim) (s : State) (hr : s.restOfScript = ps)
    (hb : (seqRunFrom ps s).seqBusy = true) : (seqRunFrom ps s).midScript = true := by
  induction ps generalizing s with
  | nil => simp [seqRunFrom] at hb
  | cons p ps ih =>
    match p with
    | .pause d => exact midScript_next hr rfl (by simp [seqRunFrom]) (by simp [seqRunFrom]) (by simp [seqRunFrom])
    | .set chs v => exact ih _ (restOfScript_next hr (by simp) (by simp) (by simp)) hb
    | .ramp chs a b step =>
      by_cases hv : rampNow a s = b
      · exact midScript_next hr rfl (by simp [seqRunFrom]) (by simp [seqRunFrom]) (by simp [seqRunFrom, rampStep, rampMove, hv])
      · simp [State.midScript, seqRunFrom, rampStep, rampMove, hv]

/-! ### Bounds -/

/-- The percentages a primitive names are at most `bound`. -/
def Prim.pctLe (bound : Pct) : Prim → Prop
  | .set _ v => v ≤ bound
  | .ramp _ a b _ => a ≤ bound ∧ b ≤ bound
  | .pause _ => True

theorem script_pctLe (anim : Anim) {T : Pct} (hT : T ≤ 100) : ∀ p ∈ script anim T, p.pctLe 100 := by
  have hlo : Config.flashLo ≤ 100 := by decide
  have hhi : Config.flashHi ≤ 100 := by decide
  cases anim <;> simp [script, Prim.pctLe]
  case level => exact ⟨hT, ⟨hlo, hhi⟩, hhi, hT⟩
  all_goals exact hT

theorem rampValue_le {a b bound : Pct} (ha : a ≤ bound) (hb : b ≤ bound) {k : Nat} (hk : k ≤ distance a b) :
    rampValue a b k ≤ bound := by
  have h1 := a.isLt
  have h2 := b.isLt
  unfold distance at hk
  unfold rampValue
  simp only [BitVec.le_def] at ha hb ⊢
  split <;> simp only [BitVec.toNat_ofNat] <;> omega

theorem writes_pct_le {bound : Pct} {p : Prim} (hp : p.pctLe bound) (start : Nat) :
    ∀ r ∈ p.writes start, r.pct ≤ bound := by
  intro r hr
  cases p with
  | set chs v => obtain ⟨_, _, rfl⟩ := List.mem_map.mp hr; exact hp
  | pause d => cases hr
  | ramp chs a b step =>
    obtain ⟨k, hk, hr⟩ := List.mem_flatMap.mp hr
    obtain ⟨_, _, rfl⟩ := List.mem_map.mp hr
    exact rampValue_le hp.1 hp.2 (by have := List.mem_range.mp hk; omega)

theorem timeline_pct_le {bound : Pct} {ps : List Prim} (hp : ∀ p ∈ ps, p.pctLe bound) (start : Nat) :
    ∀ r ∈ timeline start ps, r.pct ≤ bound := by
  induction ps generalizing start with
  | nil => intro r hr; cases hr
  | cons p ps ih =>
    intro r hr
    rcases List.mem_append.mp hr with hr | hr
    · exact writes_pct_le (hp p List.mem_cons_self) start r hr
    · exact ih (fun q hq => hp q (List.mem_cons_of_mem _ hq)) _ r hr

theorem writes_tau_ge (p : Prim) (start : Nat) : ∀ r ∈ p.writes start, start ≤ r.tau := by
  intro r hr
  cases p with
  | set chs v => obtain ⟨_, _, rfl⟩ := List.mem_map.mp hr; exact Nat.le_refl _
  | pause d => cases hr
  | ramp chs a b step =>
    obtain ⟨k, _, hr⟩ := List.mem_flatMap.mp hr
    obtain ⟨_, _, rfl⟩ := List.mem_map.mp hr
    exact Nat.le_add_right _ _

/-- No write of a timeline comes before its start. -/
theorem timeline_tau_ge (ps : List Prim) (start : Nat) : ∀ r ∈ timeline start ps, start ≤ r.tau := by
  induction ps generalizing start with
  | nil => intro r hr; cases hr
  | cons p ps ih =>
    intro r hr
    rcases List.mem_append.mp hr with hr | hr
    · exact writes_tau_ge p start r hr
    · exact (Nat.le_add_right _ _).trans (ih _ r hr)

theorem insideRamp_le {a b v bound : Pct} (h : insideRamp a b v = true) (ha : a ≤ bound) (hb : b ≤ bound) :
    v ≤ bound := by
  unfold insideRamp at h
  simp only [BitVec.lt_def, BitVec.le_def] at *
  split at h <;> simp at h <;> omega

theorem todo_pctLe {s : State} (hT : s.seqTgt ≤ 100) (hv : s.seqVal ≤ 100) : ∀ p ∈ s.todo, p.pctLe 100 := by
  have h : ∀ p ∈ s.restOfScript, p.pctLe 100 := fun p hp =>
    script_pctLe s.seqAnim hT p (List.mem_of_mem_drop hp)
  unfold State.todo
  split
  · rename_i chs a b step ps hr
    intro p hp
    rcases List.mem_cons.mp hp with rfl | hp
    · have := h (.ramp chs a b step) (hr ▸ List.mem_cons_self)
      refine ⟨?_, this.2⟩
      unfold rampNow
      split
      · exact hv
      · exact this.1
    · exact h p (hr ▸ List.mem_cons_of_mem _ hp)
  · exact h

/-- `seq_val` stays a percentage. -/
theorem seqRunFrom_seqVal_le (ps : List Prim) (s : State) (hr : s.restOfScript = ps) (hp : s.positionOk = true)
    (hT : s.seqTgt ≤ 100) (hv : s.seqVal ≤ 100) : (seqRunFrom ps s).seqVal ≤ 100 := by
  induction ps generalizing s with
  | nil => simpa [seqRunFrom] using hv
  | cons p ps ih =>
    match p with
    | .pause d => simpa [seqRunFrom] using hv
    | .set chs v =>
      have hn : s.seqInr = false := not_begun_of_positionOk hp (by simp [hr])
      have hpc := pc_succ hr
      have hlt := pc_lt_length hr
      refine ih _ (restOfScript_next hr (by simp) (by simp) (by simp)) ?_ (by simpa using hT) (by simpa using hv)
      refine positionOk_of_not_begun ?_ (by simpa using hn)
      simp only [State.nextPrim_seqPc, State.write_seqPc, State.nextPrim_seqAnim, State.write_seqAnim,
        State.nextPrim_seqTgt, State.write_seqTgt]
      omega
    | .ramp chs a b step =>
      have hab := script_pctLe s.seqAnim hT (.ramp chs a b step) (List.mem_of_mem_drop (i := s.seqPc.toNat) (by
        rw [show List.drop s.seqPc.toNat (script s.seqAnim s.seqTgt) = _ from hr]; exact List.mem_cons_self))
      have hnow : rampNow a s = a ∨ insideRamp a b (rampNow a s) = true := by
        unfold rampNow
        split
        · exact .inr (inside_of_positionOk hp hr ‹_›)
        · exact .inl rfl
      show (rampMove a b (rampNow a s) _).seqVal ≤ 100
      unfold rampMove
      split
      · rename_i h
        rw [State.nextPrim_seqVal, State.setRamp_seqVal, h]; exact hab.2
      · rename_i h
        obtain ⟨h1, h2⟩ := rampNext_eq hnow h
        rw [State.setRamp_seqVal, h1]
        exact insideRamp_le h2 hab.1 hab.2

/-! ### What is still to come -/

/-- The end of an action leaves to come what is to do once the wait is over. -/
theorem toCome_endAction {s : State} (h : 1 ≤ s.seqWait.toNat) :
    s.endAction.toCome = timeline (s.tau + s.seqWait.toNat) s.todo := by
  show timeline (s.tau + 1 + (s.seqWait.toNat - 1)) s.todo = _
  congr 1; omega

/-- A run ends exactly if no primitive from the present one on takes time (41_sequencer.md R146). -/
theorem seqRunFrom_seqBusy (ps : List Prim) (s : State) :
    (seqRunFrom ps s).seqBusy = (s.seqBusy && ps.any Prim.waits) := by
  induction ps generalizing s with
  | nil => simp [seqRunFrom]
  | cons p ps ih =>
    match p with
    | .pause d => simp [seqRunFrom, Prim.waits]
    | .set chs v => simp [seqRunFrom, Prim.waits, ih]
    | .ramp chs a b step => simp only [seqRunFrom, rampStep, rampMove]; split <;> simp [Prim.waits]

/-! ### `SeqStart` and the sequencer's share of an action -/

theorem upTo_append (tau : Nat) (a b : List DutyRecord) : upTo tau (a ++ b) = upTo tau a ++ upTo tau b := by
  simp [upTo]

theorem upTo_all {tau : Nat} {recs : List DutyRecord} (h : ∀ r ∈ recs, r.tau ≤ tau) : upTo tau recs = recs := by
  simpa [upTo] using h

theorem upTo_none {tau : Nat} {recs : List DutyRecord} (h : ∀ r ∈ recs, tau < r.tau) : upTo tau recs = [] := by
  simpa [upTo] using h

/-- The writes of one run are those of its strobe in what was to do. -/
theorem RunOf.recs_eq {s t : State} {recs : List DutyRecord} (h : RunOf s t recs) :
    recs = upTo s.tau (timeline s.tau s.todo) := by
  have hnow : upTo s.tau recs = recs := upTo_all fun r hr => (h.now r hr).le
  cases hb : t.seqBusy with
  | false => rw [← (h.ends hb).1, hnow]
  | true =>
    obtain ⟨h5, _, _, htl, _⟩ := h.goesOn hb
    rw [htl, upTo_append, hnow, upTo_none, List.append_nil]
    intro r hr
    have := timeline_tau_ge _ _ r hr
    omega

theorem beginScript_rest (s : State) (anim : Anim) (T : Pct) :
    (s.beginScript anim T).restOfScript = script anim T := by simp [State.restOfScript]

theorem beginScript_positionOk (s : State) (anim : Anim) (T : Pct) : (s.beginScript anim T).positionOk = true :=
  positionOk_of_not_begun (by simp) (by simp)

theorem beginScript_todo (s : State) (anim : Anim) (T : Pct) : (s.beginScript anim T).todo = script anim T := by
  rw [todo_of_not_begun (by simp), beginScript_rest]

/-- What `SeqStart` does (41_sequencer.md R145). -/
theorem seqStart_runOf (anim : Anim) (T : Pct) (s : State) :
    ∃ recs, RunOf (s.beginScript anim T) (seqStart anim T s) recs :=
  seqRun_runOf _ (by simp) (beginScript_positionOk s anim T)

theorem seqStart_started (anim : Anim) (T : Pct) (s : State) : AnimationStarted anim T s (seqStart anim T s) := by
  obtain ⟨recs, h⟩ := seqStart_runOf anim T s
  have hrecs := h.recs_eq
  rw [beginScript_todo, State.beginScript_tau] at hrecs
  have hw : WritesApplied recs s (seqStart anim T s) :=
    h.writes.congr rfl rfl rfl rfl rfl rfl rfl rfl rfl rfl
  cases hb : (seqStart anim T s).seqBusy with
  | false =>
    have hd := (h.ends hb).2.1
    rw [beginScript_todo] at hd
    exact ⟨hrecs ▸ hw, by simp [hb, hd], by simp [State.remaining, hb, hd], by simp [hb], by simp⟩
  | true =>
    obtain ⟨h5, _, hp, htl, hd⟩ := h.goesOn hb
    rw [beginScript_todo] at htl hd
    refine ⟨hrecs ▸ hw, by simp [hb]; omega, by simp [State.remaining, hb, hd], fun _ => ⟨?_, by simp, by simp, ?_⟩, by simp⟩
    · have : 1 ≤ (seqStart anim T s).seqWait := by rw [BitVec.le_def]; simp; omega
      simp only [State.playing, hb, hp, decide_eq_true this, Bool.and_self]
    · rw [← hrecs, toCome_endAction (by omega)]
      simpa using htl

theorem seqAdvance_idle {s : State} (h : s.seqBusy = false) : seqAdvance s = s := by simp [seqAdvance, h]

/-- While its wait is not over, the sequencer only counts (10_state.md R40). -/
theorem seqAdvance_waits {s : State} (h : s.seqBusy = true) (hw : 2 ≤ s.seqWait.toNat) :
    seqAdvance s = s.setWait (s.seqWait - 1) := by
  have : s.seqWait - 1 ≠ 0 := by
    intro e
    have := congrArg BitVec.toNat e
    rw [BitVec.toNat_sub] at this
    have := s.seqWait.isLt
    simp at *; omega
  simp only [seqAdvance, h, if_true, if_neg this]

/-- Whether the sequencer is busy after its share depends on its own registers only. -/
theorem seqAdvance_seqBusy (s : State) :
    (seqAdvance s).seqBusy = (s.seqBusy && (s.seqWait - 1 != 0 || s.restOfScript.any Prim.waits)) := by
  unfold seqAdvance
  cases hb : s.seqBusy with
  | false => simp [hb]
  | true =>
    by_cases hw : s.seqWait - 1 = 0
    · rw [if_pos rfl, if_pos hw, hw, seqRun, seqRunFrom_seqBusy]
      simp [hb, State.restOfScript]
    · rw [if_pos rfl, if_neg hw, State.setWait_seqBusy, hb, bne_iff_ne.mpr hw]
      rfl

/-- When its wait is over, it runs (10_state.md R40). -/
theorem seqAdvance_runs {s : State} (h : s.seqBusy = true) (hw : s.seqWait = 1) :
    seqAdvance s = seqRun (s.setWait 0) := by
  simp [seqAdvance, h, hw]

end Sys2Proof.Machine
end

