-- ==== Sys2Proof/Laws/Tick.lean ====
section
/-! SUPPORT. What a tick does after its take (40_state_machine.md R101): its output action is the one R104 names, and nothing
outside it, the mode and the level changes. -/

namespace Sys2Proof.Machine

theorem flickerStep_happened (s : State) : FlickerHappened s (flickerStep s) :=
  ⟨flickerStep_writesApplied s, by rw [flickerStep_flickT, BitVec.toNat_add]; rfl, by simp [SequencerFrame]⟩

theorem animFor_eq_none {m : Mode} : animFor m = none ↔ m = .nikomi := by cases m <;> simp [animFor]

theorem animFor_eq_some {m : Mode} {a : Anim} (h : animFor m = some a) : m ≠ .nikomi ∧ entryScript m = a := by
  cases m <;> simp_all [animFor, entryScript]

/-- The three cases of a tick's output action. -/
theorem outputAction_cases (old : Mode) (s : State) :
    (s.mode = .nikomi ∧ outputAction old s = flickerStep s)
      ∨ (s.mode ≠ .nikomi ∧ s.mode ≠ old
        ∧ outputAction old s = seqStart (entryScript s.mode) (target s.level) s)
      ∨ (s.mode ≠ .nikomi ∧ s.mode = old ∧ outputAction old s = s) := by
  unfold outputAction
  cases h : animFor s.mode with
  | none => exact .inl ⟨animFor_eq_none.mp h, rfl⟩
  | some a =>
    obtain ⟨h1, h2⟩ := animFor_eq_some h
    by_cases ho : s.mode = old
    · exact .inr (.inr ⟨h1, ho, by simp [ho]⟩)
    · exact .inr (.inl ⟨h1, ho, by simp [ho, h2]⟩)

@[simp] theorem outputAction_mode (old : Mode) (s : State) : (outputAction old s).mode = s.mode := by
  rcases outputAction_cases old s with ⟨_, h⟩ | ⟨_, _, h⟩ | ⟨_, _, h⟩ <;> rw [h] <;> simp

@[simp] theorem outputAction_level (old : Mode) (s : State) : (outputAction old s).level = s.level := by
  rcases outputAction_cases old s with ⟨_, h⟩ | ⟨_, _, h⟩ | ⟨_, _, h⟩ <;> rw [h] <;> simp

theorem outputAction_frame (old : Mode) (s : State) : TickFrame s (outputAction old s) := by
  rcases outputAction_cases old s with ⟨_, h⟩ | ⟨_, _, h⟩ | ⟨_, _, h⟩ <;> rw [h] <;> simp [TickFrame]

/-- The mode and level after a tick are those of `Next` (40_state_machine.md R101). -/
@[simp] theorem applyEvent_mode (ev : Event) (s : State) :
    (applyEvent ev s).mode = (nextModeLevel s.mode s.level ev).1 := by simp [applyEvent]

@[simp] theorem applyEvent_level (ev : Event) (s : State) :
    (applyEvent ev s).level = (nextModeLevel s.mode s.level ev).2 := by simp [applyEvent]

theorem applyEvent_frame (ev : Event) (s : State) : TickFrame s (applyEvent ev s) := by
  have := outputAction_frame s.mode (s.setModeLevel (nextModeLevel s.mode s.level ev).1 (nextModeLevel s.mode s.level ev).2)
  simpa [TickFrame, applyEvent] using this

/-- The output action of a tick is the one R104 names. -/
theorem applyEvent_output (ev : Event) (s : State) : OutputAction s (applyEvent ev s) := by
  let s' := s.setModeLevel (nextModeLevel s.mode s.level ev).1 (nextModeLevel s.mode s.level ev).2
  show OutputAction s (outputAction s.mode s')
  unfold OutputAction
  rw [outputAction_mode, outputAction_level]
  rcases outputAction_cases s.mode s' with ⟨h1, h⟩ | ⟨h1, h2, h⟩ | ⟨h1, h2, h⟩
  · rw [if_pos h1, h]
    obtain ⟨f1, f2, f3⟩ := flickerStep_happened s'
    exact ⟨f1.congr rfl rfl rfl rfl rfl rfl rfl rfl rfl rfl, f2, f3⟩
  · rw [if_neg h1, if_pos h2, h]
    obtain ⟨a1, a2, a3, a4, a5⟩ := seqStart_started (entryScript s'.mode) (target s'.level) s'
    exact ⟨a1.congr rfl rfl rfl rfl rfl rfl rfl rfl rfl rfl, a2, a3, a4, a5⟩
  · rw [if_neg h1, if_neg (by simpa using h2), h]
    exact ⟨(WritesApplied.refl s).congr rfl rfl rfl rfl rfl rfl rfl rfl rfl rfl, rfl, rfl, rfl, rfl, rfl, rfl, fun _ => ⟨rfl, rfl⟩⟩

/-- A tick that keeps mode and level outside Nikomi changes nothing at all (R104). -/
theorem applyEvent_stays {ev : Event} {s : State} (hn : nextModeLevel s.mode s.level ev = (s.mode, s.level))
    (hm : s.mode ≠ .nikomi) : applyEvent ev s = s := by
  unfold applyEvent
  rw [hn]
  rcases outputAction_cases s.mode (s.setModeLevel s.mode s.level) with ⟨h, _⟩ | ⟨_, h, _⟩ | ⟨_, _, h⟩
  · exact absurd h hm
  · exact absurd rfl h
  · exact h

/-- Every event command is the tick of its event value (30_encoding.md R76, 40_state_machine.md R101). -/
theorem exec_eq (i : Instr) (s : State) : exec i s = .next (applyEvent (eventOf i) s) := by cases i <;> rfl

end Sys2Proof.Machine
end

