-- ==== Sys2Proof/Laws/Step.lean ====
section
/-! SUPPORT. What a tick, a millisecond action and a clock edge can do, each said once (10_state.md R40, R41). -/

namespace Sys2Proof.Machine

/-! ### Outcomes -/

@[simp] theorem mapNext_next (f : State → State) (s : State) : mapNext f (.next s) = .next (f s) := rfl

theorem mapNext_eq_next {f : State → State} {o : StepOutcome} {t : State} (h : mapNext f o = .next t) :
    ∃ u, o = .next u ∧ t = f u := by
  cases o with
  | next u => exact ⟨u, rfl, by injection h with h; exact h.symm⟩
  | fault r => cases h
  | refused r => cases h

/-! ### The FIFO -/

theorem take_nil {s : State} (h : s.fifo = []) : s.take = none := by simp [State.take, h]

theorem take_cons {s : State} {w : EventWord} {ws : List EventWord} (h : s.fifo = w :: ws) :
    s.take = some (w, s.dropOldest) := by simp [State.take, h]

/-- The event value of the next tick: that of the oldest word, or `None` (40_state_machine.md R101). -/
def nextEvent (s : State) : Event :=
  match s.fifo with
  | [] => .none
  | w :: _ => eventOf (decode w)

/-- A tick takes the oldest word, if there is one, and applies its event (R101). It never stops. -/
theorem tick_eq (s : State) : tick s = .next (applyEvent (nextEvent s) s.dropOldest) := by
  unfold tick nextEvent
  cases h : s.fifo with
  | nil =>
    rw [take_nil h]
    have : s.dropOldest = s := by cases s; simp_all [State.dropOldest]
    simp [emptyTick, this]
  | cons w ws => rw [take_cons h]; simp [exec_eq]

/-! ### The millisecond action -/

/-- The state that a millisecond action leaves. -/
def afterAction (s : State) : State :=
  if s.atBoundary && !(preTick s).seqBusy then (applyEvent (nextEvent (preTick s)) (preTick s).dropOldest).endAction
  else (preTick s).endAction

/-- A millisecond action never stops (60_exceptions.md R210). -/
theorem msAction_eq (s : State) : msAction s = .next (afterAction s) := by
  unfold msAction afterAction
  split
  · rw [tick_eq, mapNext_next]
  · rfl

theorem preTick_fifo (s : State) : (preTick s).fifo = s.fifo := by simp [preTick]
theorem preTick_mode (s : State) : (preTick s).mode = s.mode := by simp [preTick]
theorem preTick_level (s : State) : (preTick s).level = s.level := by simp [preTick]
theorem preTick_flickT (s : State) : (preTick s).flickT = s.flickT := by simp [preTick]
theorem preTick_tau (s : State) : (preTick s).tau = s.tau := by simp [preTick]

/-! ### The clock edge -/

@[simp] theorem acceptPush_not_ready (p : PortIn) (s : State) : acceptPush false p s = s := by simp [acceptPush]

theorem acceptPush_cases (ready : Bool) (p : PortIn) (s : State) :
    (ready = true ∧ p.evValid = true ∧ acceptPush ready p s = s.push p.evData)
      ∨ ((ready = false ∨ p.evValid = false) ∧ acceptPush ready p s = s) := by
  unfold acceptPush
  cases ready <;> cases p.evValid <;> simp

/-- Everything a clock edge can do (10_state.md R41). -/
theorem clockEdge_cases (p : PortIn) (s : State) :
    (p.rst = true ∧ clockEdge p s = .next s.resetEdge)
      ∨ (p.rst = false ∧ s.legal = false ∧ clockEdge p s = .refused .unreachableState)
      ∨ (p.rst = false ∧ s.legal = true ∧ p.msStrobe = true ∧ s.lastStrobe = true
        ∧ clockEdge p s = .refused .strobeTooClose)
      ∨ (p.rst = false ∧ s.legal = true ∧ p.msStrobe = true ∧ s.lastStrobe = false
        ∧ clockEdge p s = .next (acceptPush s.hasRoom p ((afterAction s.clearWe).noteStrobe true)))
      ∨ (p.rst = false ∧ s.legal = true ∧ p.msStrobe = false
        ∧ clockEdge p s = .next (acceptPush s.hasRoom p (s.clearWe.noteStrobe false))) := by
  unfold clockEdge
  cases h1 : p.rst <;> cases h2 : s.legal <;> cases h3 : p.msStrobe <;> cases h4 : s.lastStrobe <;>
    simp [State.evReady, msAction_eq]

/-- A step that answers a next state was a reset edge, a strobe edge or an edge without a strobe (10_state.md R41). -/
theorem step_cases {s t : State} (h : step s = .next t) :
    ((nextPort s).1.rst = true ∧ t = (nextPort s).2.resetEdge)
      ∨ ((nextPort s).1.rst = false ∧ (nextPort s).2.legal = true ∧ (nextPort s).1.msStrobe = true
        ∧ (nextPort s).2.lastStrobe = false
        ∧ t = acceptPush (nextPort s).2.hasRoom (nextPort s).1 ((afterAction (nextPort s).2.clearWe).noteStrobe true))
      ∨ ((nextPort s).1.rst = false ∧ (nextPort s).2.legal = true ∧ (nextPort s).1.msStrobe = false
        ∧ t = acceptPush (nextPort s).2.hasRoom (nextPort s).1 ((nextPort s).2.clearWe.noteStrobe false)) := by
  unfold step at h
  rcases clockEdge_cases (nextPort s).1 (nextPort s).2 with ⟨a, e⟩ | ⟨_, _, e⟩ | ⟨_, _, _, _, e⟩ | ⟨a, b, c, d, e⟩ | ⟨a, b, c, e⟩
    <;> rw [e] at h
  · injection h with h; exact .inl ⟨a, h.symm⟩
  · cases h
  · cases h
  · injection h with h; exact .inr (.inl ⟨a, b, c, d, h.symm⟩)
  · injection h with h; exact .inr (.inr ⟨a, b, c, h.symm⟩)

/-- The environment moves on in its own fields only: the block and the observation are as they were. -/
theorem nextPort_state (s : State) :
    ∃ ins offs, (nextPort s).2 = { s with inputs := ins, offers := offs } := by
  unfold nextPort
  split
  · exact ⟨s.inputs.tail, s.offers, rfl⟩
  · split
    · exact ⟨s.inputs, s.offers.tail, rfl⟩
    · exact ⟨s.inputs, s.offers, rfl⟩

end Sys2Proof.Machine
end

