-- ==== Sys2Proof/Laws/Waveform.lean ====
section
/-! SUPPORT. Evaluating the waveform of 42_flicker.md R182 at one index with a bound on the error: a point of the unit circle is
held as two integers over `fixScale`, angles are added by multiplying points, and every angle of the waveform is a multiple of
`1 / 375`. -/

namespace Sys2Proof.Machine

/-- The denominator of the fixed-point numbers. -/
def fixScale : Nat := 2 ^ 200

/-- A point near the unit circle, in units of `1 / fixScale`, and how far it may be off. -/
structure CirclePoint where
  re : Int
  im : Int
  err : Nat
  deriving DecidableEq, Repr

/-- The point as a complex number, in units. -/
noncomputable def CirclePoint.value (p : CirclePoint) : ℂ := (p.re : ℂ) + (p.im : ℂ) * Complex.I

/-- `p` approximates the point of the unit circle at angle `x`. -/
def CirclePoint.Near (p : CirclePoint) (x : ℝ) : Prop :=
  ‖Complex.exp (x * Complex.I) * (fixScale : ℂ) - p.value‖ ≤ p.err

/-- The point at the sum of two angles. -/
def CirclePoint.mul (p q : CirclePoint) : CirclePoint where
  re := (p.re * q.re - p.im * q.im) / fixScale
  im := (p.im * q.re + p.re * q.im) / fixScale
  err := p.err + q.err + p.err * q.err / fixScale + 3

/-- Rounding down to a whole number of units costs at most one unit. -/
theorem abs_div_sub_floor_le (a : Int) : |(a : ℝ) / fixScale - ((a / (fixScale : Int) : Int) : ℝ)| ≤ 1 := by
  have hD : (0 : ℝ) < fixScale := by norm_num [fixScale]
  have hDi : (0 : Int) < fixScale := by norm_num [fixScale]
  have h1 : (a / (fixScale : Int)) * fixScale ≤ a := Int.ediv_mul_le a hDi.ne'
  have h2 : a < (a / (fixScale : Int) + 1) * fixScale := Int.lt_ediv_add_one_mul_self a hDi
  have h1' : ((a / (fixScale : Int) : Int) : ℝ) * fixScale ≤ a := by exact_mod_cast h1
  have h2' : (a : ℝ) < (((a / (fixScale : Int) : Int) : ℝ) + 1) * fixScale := by exact_mod_cast h2
  rw [abs_le]
  constructor
  · have := (le_div_iff₀ hD).mpr h1'; linarith
  · have := (div_lt_iff₀ hD).mpr h2'; linarith

theorem CirclePoint.near_mul {p q : CirclePoint} {x y : ℝ} (hp : p.Near x) (hq : q.Near y) : (p.mul q).Near (x + y) := by
  have hD : (0 : ℝ) < fixScale := by norm_num [fixScale]
  have hDc : (fixScale : ℂ) ≠ 0 := by exact_mod_cast hD.ne'
  unfold CirclePoint.Near at *
  set Z := Complex.exp (x * Complex.I) * (fixScale : ℂ) with hZ
  set W := Complex.exp (y * Complex.I) * (fixScale : ℂ) with hW
  have hnZ : ‖Z‖ = fixScale := by
    rw [hZ, norm_mul, Complex.norm_exp_ofReal_mul_I, one_mul, Complex.norm_natCast]
  have hnW : ‖W‖ = fixScale := by
    rw [hW, norm_mul, Complex.norm_exp_ofReal_mul_I, one_mul, Complex.norm_natCast]
  have hq' : ‖q.value‖ ≤ fixScale + q.err := by
    have := norm_sub_norm_le q.value W
    rw [norm_sub_rev, hnW] at this
    linarith
  have hprod : Complex.exp (((x + y : ℝ) : ℂ) * Complex.I) * (fixScale : ℂ) = Z * W / fixScale := by
    rw [hZ, hW, Complex.ofReal_add, add_mul, Complex.exp_add]; field_simp
  have h1 : ‖Z * W - p.value * q.value‖ ≤ fixScale * q.err + p.err * (fixScale + q.err) := by
    have : Z * W - p.value * q.value = Z * (W - q.value) + (Z - p.value) * q.value := by ring
    rw [this]
    refine (norm_add_le _ _).trans (add_le_add ?_ ?_)
    · rw [norm_mul, hnZ]; exact mul_le_mul_of_nonneg_left hq hD.le
    · rw [norm_mul]; exact mul_le_mul hp hq' (norm_nonneg _) (Nat.cast_nonneg _)
  have h2 : ‖Z * W / fixScale - p.value * q.value / fixScale‖ ≤ p.err + q.err + (p.err * q.err : ℝ) / fixScale := by
    rw [← sub_div, norm_div, Complex.norm_natCast, div_le_iff₀ hD]
    refine h1.trans (le_of_eq ?_)
    field_simp; ring
  have h3 : ‖p.value * q.value / fixScale - (p.mul q).value‖ ≤ 2 := by
    have e : p.value * q.value / fixScale - (p.mul q).value
        = (((((p.re * q.re - p.im * q.im : Int) : ℝ) / fixScale - (((p.mul q).re : Int) : ℝ) : ℝ)) : ℂ)
          + (((((p.im * q.re + p.re * q.im : Int) : ℝ) / fixScale - (((p.mul q).im : Int) : ℝ) : ℝ)) : ℂ) * Complex.I := by
      simp only [CirclePoint.value]
      push_cast
      field_simp
      linear_combination (p.im * q.im : ℂ) * Complex.I_sq
    rw [e]
    refine (norm_add_le _ _).trans ?_
    rw [norm_mul, Complex.norm_I, mul_one, Complex.norm_real, Complex.norm_real]
    have a1 := abs_div_sub_floor_le (p.re * q.re - p.im * q.im)
    have a2 := abs_div_sub_floor_le (p.im * q.re + p.re * q.im)
    simp only [Real.norm_eq_abs, CirclePoint.mul]
    linarith
  have h4 : (p.err * q.err : ℝ) / fixScale ≤ ((p.err * q.err / fixScale : Nat) : ℝ) + 1 := by
    rw [div_le_iff₀ hD]
    have := Nat.lt_div_mul_add (a := p.err * q.err) (b := fixScale) (by norm_num [fixScale])
    have h : p.err * q.err ≤ (p.err * q.err / fixScale + 1) * fixScale := by rw [Nat.add_mul]; omega
    exact_mod_cast h
  rw [hprod]
  have e : Z * W / fixScale - (p.mul q).value
      = (Z * W / fixScale - p.value * q.value / fixScale) + (p.value * q.value / fixScale - (p.mul q).value) := by ring
  rw [e]
  refine (norm_add_le _ _).trans ?_
  have hm : ((p.mul q).err : ℝ) = p.err + q.err + ((p.err * q.err / fixScale : Nat) : ℝ) + 3 := by
    simp [CirclePoint.mul]
  rw [hm]
  linarith

/-- The point at the angle `1 / (375 * 2^64)`, where the circle is all but its tangent. -/
def tinyAngle : CirclePoint := ⟨fixScale, fixScale / (375 * 2 ^ 64), 2 ^ 72⟩

theorem tinyAngle_near : tinyAngle.Near (1 / (375 * 2 ^ 64)) := by
  have hD : (0 : ℝ) < fixScale := by norm_num [fixScale]
  set x : ℝ := 1 / (375 * 2 ^ 64) with hx
  have hx0 : 0 < x := by positivity
  have hx1 : ‖(x : ℂ) * Complex.I‖ = x := by
    rw [norm_mul, Complex.norm_I, mul_one, Complex.norm_real, Real.norm_eq_abs, abs_of_pos hx0]
  have h1 := Complex.norm_exp_sub_one_sub_id_le (x := (x : ℂ) * Complex.I) (by rw [hx1, hx]; norm_num)
  rw [hx1] at h1
  unfold CirclePoint.Near
  have h2 : ‖(x * fixScale - ((tinyAngle.im : Int) : ℝ) : ℂ)‖ ≤ 1 := by
    have : (x * fixScale - ((tinyAngle.im : Int) : ℝ) : ℂ) = ((x * fixScale - ((tinyAngle.im : Int) : ℝ) : ℝ) : ℂ) := by
      push_cast; ring
    rw [this, Complex.norm_real, Real.norm_eq_abs, hx, abs_le]
    norm_num [tinyAngle, fixScale]
  have e : Complex.exp (x * Complex.I) * (fixScale : ℂ) - tinyAngle.value
      = (Complex.exp (x * Complex.I) - 1 - x * Complex.I) * fixScale
        + (x * fixScale - ((tinyAngle.im : Int) : ℝ) : ℂ) * Complex.I := by
    have : (tinyAngle.re : ℂ) = (fixScale : ℂ) := by simp [tinyAngle]
    simp only [CirclePoint.value, this]
    push_cast
    ring
  rw [e]
  refine (norm_add_le _ _).trans ?_
  rw [norm_mul, norm_mul, Complex.norm_I, mul_one, Complex.norm_natCast]
  have h3 : x ^ 2 * fixScale + 1 ≤ ((tinyAngle.err : Nat) : ℝ) := by
    rw [hx]; norm_num [tinyAngle, fixScale]
  have := mul_le_mul_of_nonneg_right h1 hD.le
  linarith

/-- `k` doublings of an angle. -/
def CirclePoint.double (p : CirclePoint) : Nat → CirclePoint
  | 0 => p
  | k + 1 => (p.mul p).double k

theorem CirclePoint.near_double {p : CirclePoint} {x : ℝ} (h : p.Near x) (k : Nat) : (p.double k).Near (2 ^ k * x) := by
  induction k generalizing p x with
  | zero => simpa [CirclePoint.double] using h
  | succ k ih =>
    have := ih (near_mul h h)
    rw [show (2 : ℝ) ^ k * (x + x) = 2 ^ (k + 1) * x by ring] at this
    exact this

/-- The point at angle 1 / 375. -/
def unitAngle : CirclePoint := tinyAngle.double 64

theorem unitAngle_near : unitAngle.Near (1 / 375) := by
  have := CirclePoint.near_double tinyAngle_near 64
  rwa [show (2 : ℝ) ^ 64 * (1 / (375 * 2 ^ 64)) = 1 / 375 by norm_num] at this

/-- The point at `n` times an angle, `n` below `2 ^ bits`. -/
def CirclePoint.times (p : CirclePoint) : Nat → Nat → CirclePoint
  | 0, _ => ⟨fixScale, 0, 0⟩
  | bits + 1, n =>
    let half := p.times bits (n / 2)
    if n % 2 = 1 then (half.mul half).mul p else half.mul half

theorem CirclePoint.near_times {p : CirclePoint} {x : ℝ} (h : p.Near x) (bits : Nat) (n : Nat) (hn : n < 2 ^ bits) :
    (p.times bits n).Near (n * x) := by
  induction bits generalizing n with
  | zero =>
    have : n = 0 := by simpa using hn
    subst this
    simp [CirclePoint.times, CirclePoint.Near, CirclePoint.value]
  | succ bits ih =>
    have hh := ih (n / 2) (by rw [Nat.pow_succ] at hn; omega)
    have h2 := near_mul hh hh
    have hdiv : (n : ℝ) = 2 * ((n / 2 : Nat) : ℝ) + ((n % 2 : Nat) : ℝ) := by
      exact_mod_cast (Nat.div_add_mod n 2).symm
    simp only [CirclePoint.times]
    split
    · rename_i h1
      have := near_mul h2 h
      rw [h1] at hdiv
      rw [hdiv]
      convert this using 1
      push_cast; ring
    · have h0 : n % 2 = 0 := by omega
      rw [h0] at hdiv
      rw [hdiv]
      convert h2 using 1
      push_cast; ring

/-! ### The waveform at one index -/

/-- A factor `sin + 1/2` in units, from a point of the circle. -/
def CirclePoint.factor (p : CirclePoint) : Int := p.im + fixScale / 2

theorem CirclePoint.factor_near {p : CirclePoint} {x : ℝ} (h : p.Near x) :
    |(Real.sin x + 1 / 2) * fixScale - (p.factor : ℝ)| ≤ p.err := by
  have h1 := (Complex.abs_im_le_norm _).trans h
  have e : (Complex.exp (x * Complex.I) * (fixScale : ℂ) - p.value).im = Real.sin x * fixScale - (p.im : ℝ) := by
    rw [Complex.exp_mul_I]
    simp [CirclePoint.value, Complex.cos_ofReal_re, Complex.sin_ofReal_re, Complex.sin_ofReal_im, Complex.cos_ofReal_im]
  rw [e] at h1
  have hf : (p.factor : ℝ) = p.im + fixScale / 2 := by
    have h2 : p.factor = p.im + 2 ^ 199 := by simp [CirclePoint.factor, fixScale]
    rw [h2]
    push_cast
    norm_num [fixScale]
  rw [hf, show (Real.sin x + 1 / 2) * fixScale - ((p.im : ℝ) + fixScale / 2) = Real.sin x * fixScale - p.im by ring]
  exact h1

/-- `100 g(t)` lies, up to an error, at the product of the three factors; `v` is what it clamps and rounds to. -/
def waveCheck (t v : Nat) : Bool :=
  let p := unitAngle.times 21 (5 * t)
  let q := unitAngle.times 21 (10 * t)
  let r := unitAngle.times 21 (19 * t)
  let g := p.factor * q.factor * r.factor
  let err : Int := 4 * (fixScale * fixScale) * (p.err + q.err + r.err)
  let one : Int := fixScale * fixScale * fixScale
  t < 2 ^ 16 && 10 ≤ v && v ≤ 100 && 4 * p.err ≤ fixScale && 4 * q.err ≤ fixScale && 4 * r.err ≤ fixScale
    && (v == 10 || (2 * v - 1 : Int) * one ≤ 200 * (g - err))
    && (v == 100 || 200 * (g + err) < (2 * v + 1 : Int) * one)

theorem abs_prod_sub_le {D F1 F2 F3 f1 f2 f3 e1 e2 e3 : ℝ} (hD : 0 < D) (h1 : |F1| ≤ 3 / 2 * D) (h2 : |F2| ≤ 3 / 2 * D)
    (d1 : |F1 - f1| ≤ e1) (d2 : |F2 - f2| ≤ e2) (d3 : |F3 - f3| ≤ e3) (b2 : 4 * e2 ≤ D) (b3 : 4 * e3 ≤ D)
    (h3 : |F3| ≤ 3 / 2 * D) : |F1 * F2 * F3 - f1 * f2 * f3| ≤ 4 * (D * D) * (e1 + e2 + e3) := by
  have n1 : 0 ≤ e1 := (abs_nonneg _).trans d1
  have n2 : 0 ≤ e2 := (abs_nonneg _).trans d2
  have n3 : 0 ≤ e3 := (abs_nonneg _).trans d3
  have c2 : |f2| ≤ 2 * D := by have := abs_sub_abs_le_abs_sub f2 F2; rw [abs_sub_comm] at this; linarith
  have c3 : |f3| ≤ 2 * D := by have := abs_sub_abs_le_abs_sub f3 F3; rw [abs_sub_comm] at this; linarith
  have e : F1 * F2 * F3 - f1 * f2 * f3 = F1 * F2 * (F3 - f3) + F1 * (F2 - f2) * f3 + (F1 - f1) * f2 * f3 := by ring
  rw [e]
  have s1 : |F1 * F2 * (F3 - f3)| ≤ 3 / 2 * D * (3 / 2 * D) * e3 := by rw [abs_mul, abs_mul]; gcongr
  have s2 : |F1 * (F2 - f2) * f3| ≤ 3 / 2 * D * e2 * (2 * D) := by rw [abs_mul, abs_mul]; gcongr
  have s3 : |(F1 - f1) * f2 * f3| ≤ e1 * (2 * D) * (2 * D) := by rw [abs_mul, abs_mul]; gcongr
  have := (abs_add_le (F1 * F2 * (F3 - f3) + F1 * (F2 - f2) * f3) ((F1 - f1) * f2 * f3)).trans
    (add_le_add (abs_add_le _ _) le_rfl)
  have p3 : 0 ≤ D * D * e3 := by positivity
  have p2 : 0 ≤ D * D * e2 := by positivity
  nlinarith

/-- What `100 g(t)` clamps and rounds to (42_flicker.md R182, R184). -/
theorem waveF_eq {t v : Nat} (h10 : 10 ≤ v) (h100 : v ≤ 100) (hlo : v = 10 ∨ (v : ℝ) ≤ 100 * waveG t + 1 / 2)
    (hhi : v = 100 ∨ 100 * waveG t + 1 / 2 < v + 1) : waveF t = v := by
  have h10' : (10 : ℝ) ≤ v := by exact_mod_cast h10
  have h100' : (v : ℝ) ≤ 100 := by exact_mod_cast h100
  unfold waveF
  rw [Nat.floor_eq_iff (by unfold waveC; positivity)]
  unfold waveC
  constructor
  · rcases hlo with h | h
    · have : (v : ℝ) = 10 := by exact_mod_cast h
      have h1 : (1 / 10 : ℝ) ≤ min (max (waveG t) (1 / 10)) 1 := le_min (le_max_right _ _) (by norm_num)
      linarith
    · have h1 : ((v : ℝ) - 1 / 2) / 100 ≤ min (max (waveG t) (1 / 10)) 1 :=
        le_min (le_max_of_le_left (by linarith)) (by linarith)
      linarith
  · rcases hhi with h | h
    · have : (v : ℝ) = 100 := by exact_mod_cast h
      have h1 : min (max (waveG t) (1 / 10)) 1 ≤ 1 := min_le_right _ _
      linarith
    · have h1 : min (max (waveG t) (1 / 10)) 1 < ((v : ℝ) + 1 / 2) / 100 :=
        (min_le_left _ _).trans_lt (max_lt (by linarith) (by linarith))
      linarith

/-- An index that passes the check has the value it was checked for. -/
theorem waveF_of_check {t v : Nat} (h : waveCheck t v = true) : waveF t = v := by
  have hD : (0 : ℝ) < fixScale := by norm_num [fixScale]
  unfold waveCheck at h
  simp only [Bool.and_eq_true, Bool.or_eq_true, decide_eq_true_eq, beq_iff_eq] at h
  obtain ⟨⟨⟨⟨⟨⟨⟨ht, h10⟩, h100⟩, b1⟩, b2⟩, b3⟩, hlo⟩, hhi⟩ := h
  have n1 := CirclePoint.factor_near (CirclePoint.near_times unitAngle_near 21 (5 * t) (by omega))
  have n2 := CirclePoint.factor_near (CirclePoint.near_times unitAngle_near 21 (10 * t) (by omega))
  have n3 := CirclePoint.factor_near (CirclePoint.near_times unitAngle_near 21 (19 * t) (by omega))
  generalize unitAngle.times 21 (5 * t) = p at *
  generalize unitAngle.times 21 (10 * t) = q at *
  generalize unitAngle.times 21 (19 * t) = r at *
  rw [show (((5 * t : Nat) : ℝ) * (1 / 375)) = waveX t by unfold waveX; push_cast; ring] at n1
  rw [show (((10 * t : Nat) : ℝ) * (1 / 375)) = 2 * waveX t by unfold waveX; push_cast; ring] at n2
  rw [show (((19 * t : Nat) : ℝ) * (1 / 375)) = 19 / 5 * waveX t by unfold waveX; push_cast; ring] at n3
  have bound : ∀ y : ℝ, |(Real.sin y + 1 / 2) * fixScale| ≤ 3 / 2 * fixScale := by
    intro y
    have h1 := Real.sin_le_one y
    have h2 := Real.neg_one_le_sin y
    rw [abs_mul, abs_of_pos hD]
    gcongr
    rw [abs_le]; constructor <;> linarith
  have hg := abs_prod_sub_le hD (bound _) (bound _) n1 n2 n3 (by exact_mod_cast b2) (by exact_mod_cast b3) (bound _)
  have hone : (Real.sin (waveX t) + 1 / 2) * fixScale * ((Real.sin (2 * waveX t) + 1 / 2) * fixScale)
      * ((Real.sin (19 / 5 * waveX t) + 1 / 2) * fixScale) = waveG t * (fixScale * fixScale * fixScale) := by
    unfold waveG; ring
  rw [hone, abs_le] at hg
  have hpos : (0 : ℝ) < fixScale * fixScale * fixScale := by positivity
  refine waveF_eq h10 h100 (hlo.imp id fun h => ?_) (hhi.imp id fun h => ?_)
  · have h' : ((2 * v - 1 : ℝ)) * (fixScale * fixScale * fixScale)
        ≤ 200 * ((p.factor : ℝ) * q.factor * r.factor - 4 * (fixScale * fixScale) * (p.err + q.err + r.err)) := by
      exact_mod_cast h
    have : (2 * v - 1 : ℝ) * (fixScale * fixScale * fixScale) ≤ (200 * waveG t) * (fixScale * fixScale * fixScale) := by
      linarith [hg.1]
    have := le_of_mul_le_mul_right this hpos
    linarith
  · have h' : 200 * ((p.factor : ℝ) * q.factor * r.factor + 4 * (fixScale * fixScale) * (p.err + q.err + r.err))
        < ((2 * v + 1 : ℝ)) * (fixScale * fixScale * fixScale) := by
      exact_mod_cast h
    have : (200 * waveG t) * (fixScale * fixScale * fixScale) < (2 * v + 1 : ℝ) * (fixScale * fixScale * fixScale) := by
      linarith [hg.2]
    have := lt_of_mul_lt_mul_right this hpos.le
    linarith

end Sys2Proof.Machine
end

