-- ==== Sys2Proof/Tests/Slice0.lean ====
section
/-! SUPPORT. The model's own tests. Expected results are those of 95_test_vectors.md (named L1, L2 with their vector letters)
and of the worked examples of the rules; each vector there starts at a tick boundary with the sequencer idle. Then, for every
statement with hypotheses, a state and operands that meet them. -/

namespace Sys2Proof.Tests

open Sys2Proof Sys2Proof.Machine

/-! ### Ill-formed terms -/

theorem test_wf_refuses_wide_proxchg : (ScriptCommand.proxchg 65536).wellFormed = false := by decide
theorem test_wf_refuses_wide_proxcur : (ScriptCommand.proxcur 65536).wellFormed = false := by decide
theorem test_wf_refuses_wide_proxboth : (ScriptCommand.proxboth 65536).wellFormed = false := by decide
theorem test_wf_refuses_wide_word : (ScriptCommand.word 0x40000).wellFormed = false := by decide
theorem test_wf_refuses_script_with_wide_word :
    scriptWellFormed [⟨0, .press .power⟩, ⟨3, .word 0x40000⟩] = false := by decide
theorem test_wf_admits_the_greatest_numbers :
    scriptWellFormed [⟨0, .proxchg 65535⟩, ⟨0, .proxcur 65535⟩, ⟨0, .proxboth 65535⟩, ⟨0, .word 0x3FFFF⟩] = true := by decide
theorem test_nonconforming_button_word : EventWord.sourceConforming 0x0FFFD = false := by decide
theorem test_nonconforming_reserved_word : EventWord.sourceConforming 0x30000 = false := by decide
theorem test_nonconforming_reserved : Instr.reserved.sourceConforming = false := by decide

/-! ### Decoding, every word written out (L2.1 and 30_encoding.md R84) -/

theorem test_decode_press_power : decode 0b00_0000000000000000 = .pressPower := by decide
theorem test_decode_press_weak : decode 0b00_0000000000000001 = .pressWeak := by decide
theorem test_decode_press_strong : decode 0b00_0000000000000010 = .pressStrong := by decide
theorem test_decode_press_nikomi : decode 0b00_0000000000000011 = .pressNikomi := by decide
theorem test_decode_proxchg : decode 0b01_0000010111011011 = .proxchg 1499 := by decide
theorem test_decode_proxcur : decode 0b10_0000010111011011 = .proxcur 1499 := by decide
theorem test_decode_reserved : decode 0b11_0000000000000000 = .reserved := by decide
theorem test_decode_ends_of_proxchg : decode 0x10000 = .proxchg 0 ∧ decode 0x1FFFF = .proxchg 65535 := by decide
theorem test_decode_ends_of_proxcur : decode 0x20000 = .proxcur 0 ∧ decode 0x2FFFF = .proxcur 65535 := by decide
theorem test_decode_ignored_button_bits : decode 0x0FFFD = .pressWeak ∧ decode 0x0FFFC = .pressPower := by decide
theorem test_decode_reserved_with_payload : decode 0x3FFFF = .reserved := by decide
theorem test_decode_refuses_a_wide_number : decodeNumber 0x40000 = .error .widerThanEventWord := by decide
theorem test_decode_table_word : decodeTableWord 24 0x10DAC = some (.proxchg 3500) := by decide

theorem test_encode_words :
    [encode .pressPower, encode .pressWeak, encode .pressStrong, encode .pressNikomi, encode (.proxchg 1500),
      encode (.proxcur 1499)] = [0x00000, 0x00001, 0x00002, 0x00003, 0x105DC, 0x205DB] := by decide

/-- `PROXBOTH` is the pair of 30_encoding.md R83, the current reading first. -/
theorem test_assemble_proxboth : assemble (.proxboth 1499) = [0x205DB, 0x105DB] := by decide

/-- No two rows of the opcode map overlap: each row's own word selects that row alone (R80). -/
theorem test_rows_do_not_overlap :
    opcodeMap.map (fun r => (opcodeMap.filter fun q => q.selectedBy r.bits).map (·.mnemonic))
      = opcodeMap.map (fun r => [r.mnemonic]) := by decide

/-! ### Ticks (L2.3) -/

/-- The start of a vector of L2.3, with the FIFO given. -/
def start (m : Mode) (l : Level) (t : FlickIndex) (fifo : List EventWord) (pct : Pct := 0) : State :=
  { State.reset with mode := m, level := l, flickT := t, fifo := fifo, duty0 := pct, duty1 := pct }

/-- What the vectors of L2.3 look at: mode, level, `t`, the records of the strobe, and whether an animation is left. -/
structure Seen where
  mode : Mode
  level : Nat
  t : Nat
  writes : List (Channel × Nat)
  busy : Bool
  deriving DecidableEq, Repr

/-- What a step shows of itself. -/
def seen : StepOutcome → Option Seen
  | .next s => some ⟨s.mode, s.level.toNat, s.flickT.toNat, s.dutyTrace.map fun r => (r.ch, r.pct.toNat), s.seqBusy⟩
  | .fault _ => none
  | .refused _ => none

/-- S2. -/
theorem test_press_power_from_power_off : seen (step (start .powerOff 5 0 [0x00000]))
    = some ⟨.standby, 5, 0, [(.ch0, 0), (.ch1, 0)], true⟩ := by decide
/-- S9. -/
theorem test_press_power_from_standby : seen (step (start .standby 5 0 [0x00000]))
    = some ⟨.powerOff, 5, 0, [(.ch0, 60), (.ch1, 60)], true⟩ := by decide
/-- S16. -/
theorem test_press_weak_from_power_on : seen (step (start .powerOn 5 0 [0x00001]))
    = some ⟨.levelDown, 4, 0, [(.ch1, 50), (.ch0, 50)], true⟩ := by decide
/-- L1.3, from Nikomi. -/
theorem test_press_weak_at_level_0 : seen (step (start .nikomi 0 100 [0x00001]))
    = some ⟨.powerOn, 0, 100, [(.ch0, 10), (.ch1, 10)], false⟩ := by decide
/-- S32. -/
theorem test_press_strong_from_nikomi : seen (step (start .nikomi 5 7 [0x00002]))
    = some ⟨.levelUp, 6, 7, [(.ch1, 70), (.ch0, 50)], true⟩ := by decide
/-- S19. -/
theorem test_press_strong_at_level_9 : seen (step (start .powerOn 9 0 [0x00002])) = some ⟨.powerOn, 9, 0, [], false⟩ := by
  decide
/-- S20. -/
theorem test_press_nikomi_from_power_on : seen (step (start .powerOn 5 0 [0x00003]))
    = some ⟨.nikomi, 5, 1, [(.ch0, 13), (.ch1, 13)], false⟩ := by decide +kernel
/-- S33. -/
theorem test_press_nikomi_in_nikomi : seen (step (start .nikomi 5 3 [0x00003]))
    = some ⟨.nikomi, 5, 4, [(.ch0, 20), (.ch1, 20)], false⟩ := by decide +kernel
/-- L1.5. -/
theorem test_proxchg_3500_from_power_on : seen (step (start .powerOn 5 0 [0x10DAC]))
    = some ⟨.panShake, 5, 0, [(.ch0, 0), (.ch1, 0)], true⟩ := by decide
/-- L1.6. -/
theorem test_proxchg_3501_from_pan_shake : seen (step (start .panShake 5 0 [0x10DAD]))
    = some ⟨.standby, 5, 0, [(.ch0, 0), (.ch1, 0)], true⟩ := by decide
/-- L1.4. -/
theorem test_proxcur_1499_from_standby : seen (step (start .standby 5 0 [0x205DB]))
    = some ⟨.powerOn, 5, 0, [(.ch0, 60), (.ch1, 60)], false⟩ := by decide
/-- L1.4. -/
theorem test_proxcur_1500_from_standby : seen (step (start .standby 5 0 [0x205DC])) = some ⟨.standby, 5, 0, [], false⟩ := by
  decide
/-- S28. -/
theorem test_reserved_from_pan_shake : seen (step (start .panShake 5 0 [0x3FFFF]))
    = some ⟨.powerOn, 5, 0, [(.ch0, 60), (.ch1, 60)], false⟩ := by decide
/-- S29, the empty tick. -/
theorem test_empty_tick_in_nikomi : seen (step (start .nikomi 5 0 []))
    = some ⟨.nikomi, 5, 1, [(.ch0, 13), (.ch1, 13)], false⟩ := by decide +kernel
/-- The wrap of L2.5. -/
theorem test_flicker_index_wraps : seen (step (start .nikomi 5 65535 []))
    = some ⟨.nikomi, 5, 0, [(.ch0, 84), (.ch1, 84)], false⟩ := by decide +kernel

/-- The host's word is the one the very next step runs. -/
theorem test_with_fetch_word : seen (step (State.reset.withFetchWord 24 0x0FFFC))
    = some ⟨.standby, 5, 0, [(.ch0, 0), (.ch1, 0)], true⟩ := by decide

/-! ### The sequencer (L2.4) -/

/-- The last write of `A_STBY`'s up ramp repeats at the start of its down ramp, and a pause makes no write (L2.4). -/
theorem test_timeline_of_stby_10 :
    ((timeline 0 (script .stby 10)).filter fun r => r.ch = .ch0).map (fun r => (r.tau, r.pct.toNat))
      = [(0, 0), (10, 1), (20, 2), (30, 3), (40, 4), (50, 5), (60, 6), (70, 7), (80, 8), (90, 9), (100, 10), (110, 10),
        (120, 9), (130, 8), (140, 7), (150, 6), (160, 5), (170, 4), (180, 3), (190, 2), (200, 1), (210, 0)] := by decide
theorem test_duration_of_stby_10 : scriptDuration (script .stby 10) = 720 := by decide
theorem test_duration_of_level_100 : scriptDuration (script .level 100) = 260 := by decide

/-- `A_OFF` at its last wait, with a press of Power waiting: the one double write (program P5). -/
def offEnds : State :=
  { start .powerOff 5 0 [0x00000] with
    seqBusy := true, seqAnim := .off, seqPc := 1, seqWait := 1, seqTgt := 60 }

theorem test_double_write : seen (step offEnds)
    = some ⟨.standby, 5, 0, [(.ch0, 0), (.ch1, 0), (.ch0, 0), (.ch1, 0)], true⟩ := by decide

/-! ### The FIFO and the port (L2.2) -/

/-- A strobe edge with a word offered. -/
def strobePush (w : EventWord) : PortIn := ⟨false, true, true, w⟩

/-- An edge without a strobe, with a word offered. -/
def push (w : EventWord) : PortIn := ⟨false, false, true, w⟩

/-- What the vectors of L2.2 look at. -/
def queue : StepOutcome → Option (List EventWord × Bool)
  | .next s => some (s.fifo, s.evReady false)
  | .fault _ => none
  | .refused _ => none

theorem test_f2 : queue (clockEdge (push 4) (start .standby 5 0 [1, 2, 3])) = some ([1, 2, 3, 4], false) := by decide
theorem test_f3 : queue (clockEdge (push 5) (start .standby 5 0 [1, 2, 3, 4])) = some ([1, 2, 3, 4], false) := by decide
theorem test_f4 : queue (clockEdge (strobePush 5) (start .standby 5 0 [1, 2, 3, 4])) = some ([2, 3, 4], true) := by decide
theorem test_f6 : queue (clockEdge (strobePush 3) (start .standby 5 0 [1, 2])) = some ([2, 3], true) := by decide
theorem test_f7 : queue (clockEdge (strobePush 1) (start .standby 5 0 [])) = some ([1], true) := by decide
/-- F8's `ev_ready` is that of the edge after, with `rst` released; while `rst` is high it is 0 (20_memory.md R52). -/
theorem test_ready_is_low_in_reset : ((start .standby 5 0 []).portOut true).evReady = false := by decide
theorem test_f8 : queue (clockEdge ⟨true, true, true, 2⟩ (start .standby 5 0 [1])) = some ([], true) := by decide

/-- L1.1. -/
theorem test_duty_us : (start .powerOn 9 0 [] 100).portOut false
    = ⟨true, 100, 100, 2500, 2500, 0, 2, 9, false, 0⟩ := by decide

/-! ### The flicker ROM (L2.5, and the sums of the four ROM files) -/

theorem test_flick_entries :
    [0, 1, 19, 20, 61, 62, 71, 72, 100, 7403, 65534, 65535].map (fun t => (flick (BitVec.ofNat 16 t)).toNat)
      = [13, 15, 98, 100, 100, 93, 11, 10, 10, 21, 88, 84] := by decide +kernel

/-- The sum of a page's entries (`rowSum_eq`). -/
def rowsSum (rows : List Nat) : Nat := (rows.map rowSum).sum

theorem test_rom_sum_0 : (flickPart0.map rowsSum).sum = 381691 := by decide +kernel
theorem test_rom_sum_1 : (flickPart1.map rowsSum).sum = 381193 := by decide +kernel
theorem test_rom_sum_2 : (flickPart2.map rowsSum).sum = 381030 := by decide +kernel
theorem test_rom_sum_3 : (flickPart3.map rowsSum).sum = 378544 := by decide +kernel

/-! ### The hypotheses of the statements can be met, each clause at an end of its range -/

/-- `A_STBY` with `T = 60` in its up ramp, next value 30, with three words waiting. -/
def playing : State :=
  { start .standby 5 0 [0, 1, 2] 29 with
    tickPh := 1, seqBusy := true, seqAnim := .stby, seqInr := true, seqVal := 30, seqWait := 10, seqTgt := 60 }

/-- A state in which an edge has the given input ports. -/
def State.facing (s : State) (p : PortIn) : State := { s with inputs := [p] }

/-- A step completes. -/
def completes (s : State) : Prop := ∃ t, step s = .next t

theorem test_witness_decode_inverts_encode : (Instr.proxchg 65535).wellFormed = true ∧ Instr.reserved.wellFormed = true := by
  decide

theorem test_witness_ignored_bits :
    (BitVec.extractLsb' 16 2 (0x0FFFD : EventWord) = BitVec.extractLsb' 16 2 (0x00001 : EventWord)
      ∧ BitVec.extractLsb' 16 2 (0x0FFFD : EventWord) = 0
      ∧ BitVec.extractLsb' 0 2 (0x0FFFD : EventWord) = BitVec.extractLsb' 0 2 (0x00001 : EventWord))
    ∧ BitVec.extractLsb' 16 2 (0x3FFFF : EventWord) = BitVec.extractLsb' 16 2 (0x30000 : EventWord)
    ∧ BitVec.extractLsb' 16 2 (0x3FFFF : EventWord) = 3 := by decide

theorem test_witness_strobe_runs_the_decoded_word :
    nextPort (start .standby 5 0 [0x205DB, 1, 2, 3]) = (strobeEdge, start .standby 5 0 [0x205DB, 1, 2, 3])
      ∧ strobeEdge.rst = false ∧ strobeEdge.msStrobe = true
      ∧ (start .standby 5 0 [0x205DB, 1, 2, 3]).lastStrobe = false
      ∧ (start .standby 5 0 [0x205DB, 1, 2, 3]).legal = true
      ∧ (start .standby 5 0 [0x205DB, 1, 2, 3]).tickPh = 0
      ∧ (start .standby 5 0 [0x205DB, 1, 2, 3]).seqBusy = false
      ∧ (start .standby 5 0 [0x205DB, 1, 2, 3]).fifo = 0x205DB :: [1, 2, 3]
      ∧ decode 0x205DB = .proxcur 1499 ∧ (Instr.proxcur 1499).wellFormed = true :=
  ⟨rfl, rfl, rfl, rfl, by decide, rfl, rfl, rfl, by decide, rfl⟩

theorem test_witness_strobe_runs_the_empty_tick :
    nextPort (start .nikomi 9 0 []) = (strobeEdge, start .nikomi 9 0 [])
      ∧ (start .nikomi 9 0 []).lastStrobe = false ∧ (start .nikomi 9 0 []).legal = true
      ∧ (start .nikomi 9 0 []).tickPh = 0 ∧ (start .nikomi 9 0 []).seqBusy = false ∧ (start .nikomi 9 0 []).fifo = [] :=
  ⟨rfl, rfl, by decide, rfl, rfl, rfl⟩

theorem test_witness_strobe_runs_the_millisecond_action :
    nextPort (State.facing offEnds strobeEdge) = (strobeEdge, { offEnds with inputs := [] })
      ∧ (State.facing offEnds strobeEdge).lastStrobe = false ∧ (State.facing offEnds strobeEdge).legal = true
      ∧ nextPort (State.facing playing strobeEdge) = (strobeEdge, { playing with inputs := [] })
      ∧ (State.facing playing strobeEdge).legal = true
      ∧ (start .standby 5 0 []).fifo = [] ∧ playing.fifo = 0 :: [1, 2] :=
  ⟨rfl, rfl, by decide, rfl, by decide, rfl, rfl⟩

theorem test_witness_transition_function : (9 : Level).toNat ≤ 9 ∧ (0 : Level).toNat ≤ 9 := by decide

theorem test_witness_press_power_words : (0x0FFFC : EventWord) &&& 0x30003 = 0x00000 := by decide

theorem test_witness_press_strong :
    (start .nikomi 9 0 []).level.toNat ≤ 9 ∧ (start .powerOn 8 0 []).level.toNat ≤ 9 := by decide

theorem test_witness_proxchg_words : (0x1FFFF : EventWord) &&& 0x30000 = 0x10000 := by decide

theorem test_witness_proxcur_words : (0x2FFFF : EventWord) &&& 0x30000 = 0x20000 := by decide

theorem test_witness_level_is_written_only_by_weak_and_strong :
    (∃ t, exec .reserved (start .panShake 9 0 []) = .next t) ∧ Instr.reserved ≠ .pressWeak ∧ Instr.reserved ≠ .pressStrong
      ∧ (∃ t, emptyTick (start .levelUp 9 0 []) = .next t) ∧ completes (start .powerOn 9 0 [2]) :=
  ⟨⟨_, rfl⟩, by decide, by decide, ⟨_, rfl⟩, ⟨_, rfl⟩⟩

theorem test_witness_transient_modes :
    (start .levelUp 9 0 [0]).mode = .levelUp ∧ (start .levelDown 0 0 []).mode = .levelDown
      ∧ (start .panShake 5 0 [0x10DAC]).fifo.head?.map decode = some (.proxchg 3500)
      ∧ (start .panShake 5 0 [0x10DAD]).fifo.head?.map decode = some (.proxchg 3501)
      ∧ (start .panShake 5 0 [0]).fifo.head?.map decode = some .pressPower
      ∧ (start .panShake 5 0 []).fifo.head?.map decode = none := by decide

theorem test_witness_ways_out_of_nikomi :
    (start .nikomi 9 0 []).mode = .nikomi ∧ (∃ t, exec .pressStrong (start .nikomi 9 0 []) = .next t)
      ∧ (∃ t, exec .pressWeak (start .nikomi 0 0 []) = .next t)
      ∧ (∃ t, exec (.proxchg 3500) (start .nikomi 5 0 []) = .next t)
      ∧ (∃ t, exec (.proxchg 3501) (start .nikomi 5 0 []) = .next t) :=
  ⟨rfl, ⟨_, rfl⟩, ⟨_, rfl⟩, ⟨_, rfl⟩, ⟨_, rfl⟩⟩

theorem test_witness_power_off_ignores :
    (start .powerOff 9 0 []).mode = .powerOff ∧ Instr.pressStrong ≠ .pressPower ∧ Instr.proxcur 0 ≠ .pressPower := by decide

theorem test_witness_hysteresis_band :
    1500 ≤ (1500 : Prox).toNat ∧ (1500 : Prox).toNat ≤ 3500 ∧ 1500 ≤ (3500 : Prox).toNat ∧ (3500 : Prox).toNat ≤ 3500
      ∧ (start .standby 5 0 []).mode = .standby ∧ (start .powerOn 5 0 []).mode = .powerOn := by decide

theorem test_witness_script_durations : (100 : Pct).toNat ≤ 100 ∧ (0 : Pct).toNat ≤ 100 := by decide

theorem test_witness_target_and_durations : (9 : Level).toNat ≤ 9 ∧ (0 : Level).toNat ≤ 9 := by decide

theorem test_witness_animation_timelines : (100 : Pct).toNat ≤ 100 ∧ (10 : Pct).toNat ≤ 100 := by decide

theorem test_witness_sequencer_plays_the_timeline :
    0 < scriptDuration (script .off 60) ∧ 609 < scriptDuration (script .off 60)
      ∧ 609 + 1 = scriptDuration (script .off 60) ∧ scriptDuration (script .on 60) = 0 := by decide

theorem test_witness_running_animation_keeps_its_timeline :
    playing.playing = true ∧ (preTick playing).seqBusy = true
      ∧ ({ playing with seqWait := 1 } : State).playing = true ∧ (preTick { playing with seqWait := 1 }).seqBusy = true
      ∧ offEnds.playing = true ∧ (preTick offEnds).seqBusy = false := by decide

theorem test_witness_no_tick_while_animating :
    (preTick playing).seqBusy = true ∧ (preTick { playing with seqWait := 1 }).seqBusy = true := by decide

theorem test_witness_running_animation_ignores_events :
    (preTick playing).seqBusy = true
      ∧ (∃ t, clockEdge strobeEdge playing = .next t)
      ∧ (∃ t, clockEdge (strobePush 7) { playing with fifo := [], accepted := [⟨0, 7⟩] } = .next t)
      ∧ (∃ t, clockEdge (push 7) { playing with fifo := [1, 2, 3, 4], accepted := [] } = .next t)
      ∧ strobeEdge.msStrobe = (strobePush 7).msStrobe :=
  ⟨by decide, ⟨_, rfl⟩, ⟨_, rfl⟩, ⟨_, rfl⟩, rfl⟩

theorem off_ends_inv : offEnds.Inv := by unfold State.Inv; decide

theorem playing_inv : playing.Inv := by unfold State.Inv; decide

theorem test_witness_animation_ends_on_a_boundary :
    offEnds.Inv ∧ offEnds.seqBusy = true ∧ (preTick offEnds).seqBusy = false := ⟨off_ends_inv, by decide, by decide⟩

theorem test_witness_several_writes :
    offEnds.Inv ∧ (∃ t, msAction offEnds = .next t) ∧ playing.Inv ∧ ∃ t, msAction playing = .next t :=
  ⟨off_ends_inv, ⟨_, rfl⟩, playing_inv, ⟨_, rfl⟩⟩

theorem test_witness_flicker_index_moves :
    (nextPort (start .nikomi 5 65535 [])).1.rst = false ∧ completes (start .nikomi 5 65535 [])
      ∧ completes (start .powerOn 5 65535 []) := ⟨rfl, ⟨_, rfl⟩, ⟨_, rfl⟩⟩

theorem test_witness_take :
    (start .standby 5 0 []).fifo = [] ∧ (start .standby 5 0 [1, 2, 3, 4]).fifo = 1 :: [2, 3, 4] := ⟨rfl, rfl⟩

theorem test_witness_fifo_keeps_every_word :
    (nextPort (State.facing (start .standby 5 0 [1, 2, 3]) (strobePush 4))).1.rst = false
      ∧ completes (State.facing (start .standby 5 0 [1, 2, 3]) (strobePush 4))
      ∧ completes (State.facing offEnds (push 4)) ∧ completes (State.facing playing (strobePush 4)) :=
  ⟨rfl, ⟨_, rfl⟩, ⟨_, rfl⟩, ⟨_, rfl⟩⟩

theorem test_witness_flicker_rom_contents :
    ∃ rom, rom = ((List.range 65536).map fun t => (flick (BitVec.ofNat 16 t)).toNat) := ⟨_, rfl⟩

theorem test_witness_rom_is_the_waveform_at_the_samples :
    7403 ∈ List.range 80 ++ flickSamples.map Prod.fst ∧ 79 ∈ List.range 80 ++ flickSamples.map Prod.fst := by decide

theorem test_witness_first_strobe_after_reset :
    strobeEdge.rst = false ∧ strobeEdge.msStrobe = true ∧ strobeEdge.evValid = false := ⟨rfl, rfl, rfl⟩

theorem test_witness_full_fifo :
    (start .standby 5 0 [1, 2, 3, 4]).fifo.length = 4
      ∧ (nextPort (State.facing (start .standby 5 0 [1, 2, 3, 4]) (strobePush 5))).1.rst = false
      ∧ completes (State.facing (start .standby 5 0 [1, 2, 3, 4]) (strobePush 5)) := ⟨rfl, rfl, ⟨_, rfl⟩⟩

theorem test_witness_offered_word :
    (nextPort (State.facing (start .standby 5 0 [1, 2, 3]) (push 4))).1.evValid = true
      ∧ (State.facing (start .standby 5 0 [1, 2, 3]) (push 4)).fifo.length < 4
      ∧ completes (State.facing (start .standby 5 0 [1, 2, 3]) (push 4))
      ∧ completes (State.facing (start .standby 5 0 [1, 2, 3]) (strobePush 4)) := ⟨rfl, by decide, ⟨_, rfl⟩, ⟨_, rfl⟩⟩

theorem test_witness_write_strobes :
    completes (start .powerOff 5 0 [0]) ∧ completes (State.facing offEnds (push 1))
      ∧ completes (State.facing offEnds ⟨true, true, true, 1⟩) := ⟨⟨_, rfl⟩, ⟨_, rfl⟩, ⟨_, rfl⟩⟩

theorem test_witness_duty_width : (start .powerOn 9 0 [] 100).duty0 ≤ 100 ∧ (start .powerOn 9 0 [] 100).duty1 ≤ 100 := by
  decide

theorem test_witness_status_outputs :
    (start .levelDown 0 0 [1, 2, 3, 4]).fifo.length ≤ 4 ∧ (start .powerOff 0 0 []).fifo.length ≤ 4 := by decide

theorem test_witness_phase_counts :
    completes { start .powerOn 5 0 [] with tickPh := 9 } ∧ completes { start .powerOn 5 0 [] with lastStrobe := true } :=
  ⟨⟨_, rfl⟩, ⟨_, rfl⟩⟩

theorem test_witness_ticks_only_at_boundaries :
    ({ start .powerOn 5 0 [1] with tickPh := 9 } : State).tickPh ≠ 0
      ∧ completes { start .powerOn 5 0 [1] with tickPh := 9 } := ⟨by decide, ⟨_, rfl⟩⟩

theorem test_witness_edge_without_strobe :
    (nextPort (State.facing offEnds (push 1))).1.msStrobe = false ∧ completes (State.facing offEnds (push 1)) :=
  ⟨rfl, ⟨_, rfl⟩⟩

theorem test_witness_reset_edge :
    (State.facing playing ⟨true, true, true, 1⟩).inputs = [⟨true, true, true, 1⟩] := rfl

theorem test_witness_step_keeps_invariant : playing.Inv ∧ completes playing ∧ offEnds.Inv ∧ completes offEnds :=
  ⟨playing_inv, ⟨_, rfl⟩, off_ends_inv, ⟨_, rfl⟩⟩

/-- A state after one strobe that wrote, with one of two accepted words taken. -/
def observed : State :=
  { start .standby 5 0 [5] with
    duty1 := 7
    dutyTrace := [⟨0, .ch0, 3⟩, ⟨0, .ch1, 7⟩, ⟨0, .ch0, 0⟩]
    tau := 1
    decisions := [⟨0, .standby, 5⟩]
    accepted := [⟨0, 0⟩, ⟨1, 5⟩] }

theorem test_witness_step_keeps_observation_invariant : observed.ObservationInv ∧ completes observed :=
  ⟨by unfold State.ObservationInv; decide, ⟨_, rfl⟩⟩

theorem test_witness_step_completes : playing.Inv ∧ playing.strobeAllowed := ⟨playing_inv, .inr (.inr rfl)⟩

/-- Both refusals happen: at a level above 9, and at a strobe right after a strobe. -/
theorem test_witness_refusals :
    step (start .powerOn 10 0 []) = .refused .unreachableState
      ∧ step { State.facing offEnds strobeEdge with lastStrobe := true } = .refused .strobeTooClose := ⟨rfl, rfl⟩

theorem test_witness_quiet_environment :
    completes { start .standby 5 0 [1, 2, 3] with offers := [⟨0, 4⟩] }
      ∧ completes { start .standby 5 0 [1, 2, 3, 4] with offers := [⟨0, 5⟩] } := ⟨⟨_, rfl⟩, ⟨_, rfl⟩⟩

/-- A reading of 0 has a magnitude whatever the full scale is; the last change far from it, and equal to it. -/
theorem test_witness_proximity_poll :
    (0 : Prox).toNat ≤ Config.maxRaw.toNat
      ∧ (let last := Config.maxRaw + 32768
        10 < (Config.maxRaw.toNat - last.toNat) + (last.toNat - Config.maxRaw.toNat))
      ∧ (Config.maxRaw.toNat - Config.maxRaw.toNat) + (Config.maxRaw.toNat - Config.maxRaw.toNat) ≤ 10 := by
  refine ⟨by simp, ?_, by omega⟩
  have := Config.maxRaw.isLt
  simp only [BitVec.toNat_add]
  simp; omega

end Sys2Proof.Tests
end

