-- ==== Sys2Proof/Proofs/Outputs.lean ====
section
/-! The write strobes and the reset values (10_state.md R29, R38). Whatever an edge does to the duty outputs is a list of writes
(`WritesApplied`), from any state at all: no invariant of the sequencer is needed for that. The strobes then follow, since
every edge lowers them before its action. -/

namespace Sys2Proof.Machine

/-! ### What an edge does to the outputs is a list of writes -/

/-- The strobe of either channel after some writes: as it was, or up by one of them. -/
theorem WritesApplied.dutyWe_eq {recs : List DutyRecord} {s t : State} (h : WritesApplied recs s t) (ch : Channel) :
    t.dutyWe ch = (s.dutyWe ch || recs.any fun r => r.ch = ch) := by
  obtain ⟨_, _, _, h0, h1⟩ := h
  cases ch
  · exact h0
  · exact h1

/-- If a channel's strobe was down, it is up after some writes exactly if one of them, which the trace now ends with, is to
that channel. -/
theorem WritesApplied.dutyWe_iff {recs : List DutyRecord} {s t : State} (h : WritesApplied recs s t) {ch : Channel}
    (hdown : s.dutyWe ch = false) :
    t.dutyWe ch = true ↔ ∃ r ∈ t.dutyTrace.drop s.dutyTrace.length, r.ch = ch := by
  have hnew : t.dutyTrace.drop s.dutyTrace.length = recs := by rw [h.1, List.drop_left]
  rw [h.dutyWe_eq, hdown, hnew]
  simp

theorem WritesApplied.dutyTrace_grows {recs : List DutyRecord} {s t : State} (h : WritesApplied recs s t) :
    s.dutyTrace <+: t.dutyTrace := ⟨recs, h.1.symm⟩

theorem rampMove_writesApplied (a b v : Pct) (s : State) : WritesApplied [] s (rampMove a b v s) := by
  unfold rampMove
  split <;> exact .refl s

/-- A RAMP writes its present value to its channels, whether or not it ends with that (41_sequencer.md R146). -/
theorem rampStep_writesApplied (chs : List Channel) (a b : Pct) (step : Millis) (s : State) :
    WritesApplied (chs.map fun ch => ⟨s.tau, ch, rampNow a s⟩) s (rampStep chs a b step s) := by
  have hw := write_writesApplied (s.setRamp true (rampNow a s)) chs (rampNow a s)
  have hm := rampMove_writesApplied a b (rampNow a s) (((s.setRamp true (rampNow a s)).write chs (rampNow a s)).setWait step)
  have h := hw.trans hm
  rw [List.append_nil] at h
  exact h

/-- The loop of `SeqRun` only writes, from any position and whatever the sequencer registers hold. -/
theorem seqRunFrom_writesApplied (ps : List Prim) (s : State) : ∃ recs, WritesApplied recs s (seqRunFrom ps s) := by
  induction ps generalizing s with
  | nil => exact ⟨[], .refl s⟩
  | cons p ps ih =>
    cases p with
    | pause d => exact ⟨[], .refl s⟩
    | ramp chs a b step => exact ⟨_, rampStep_writesApplied chs a b step s⟩
    | set chs v =>
      obtain ⟨recs, hrest⟩ := ih (s.write chs v).nextPrim
      exact ⟨_, (write_writesApplied s chs v).trans hrest⟩

theorem seqAdvance_writesApplied (s : State) : ∃ recs, WritesApplied recs s (seqAdvance s) := by
  unfold seqAdvance
  split
  · split
    · exact seqRunFrom_writesApplied _ (s.setWait (s.seqWait - 1))
    · exact ⟨[], .refl s⟩
  · exact ⟨[], .refl s⟩

/-- Each of the three output actions of R104 is a list of writes. -/
theorem OutputAction.writesApplied {s t : State} (h : OutputAction s t) : ∃ recs, WritesApplied recs s t := by
  unfold OutputAction at h
  split at h
  · exact ⟨_, h.1⟩
  · split at h
    · exact ⟨_, h.1⟩
    · exact ⟨_, h.1⟩

/-- A millisecond action writes in the sequencer's share and then, if it ticks, in the tick (10_state.md R40). -/
theorem afterAction_writesApplied (s : State) : ∃ recs, WritesApplied recs s (afterAction s) := by
  obtain ⟨share, hshare⟩ : ∃ recs, WritesApplied recs s (preTick s) := seqAdvance_writesApplied s.advancePhase
  unfold afterAction
  split
  · obtain ⟨recs, htick⟩ := (applyEvent_output (nextEvent (preTick s)) (preTick s).dropOldest).writesApplied
    exact ⟨share ++ recs, hshare.trans htick⟩
  · exact ⟨share, hshare⟩

/-- A push writes nothing. -/
theorem acceptPush_writesApplied (ready : Bool) (p : PortIn) (s : State) :
    WritesApplied [] s (acceptPush ready p s) := by
  rcases acceptPush_cases ready p s with ⟨_, _, h⟩ | ⟨_, h⟩ <;> rw [h] <;> exact .refl s

/-! ### The strobes after each kind of edge -/

/-- The environment writes nothing. -/
theorem nextPort_writesApplied (s : State) : WritesApplied [] s.clearWe (nextPort s).2.clearWe := by
  obtain ⟨ins, offs, h⟩ := nextPort_state s
  rw [h]
  exact .refl s.clearWe

/-- A strobe edge is a list of writes that begins with both write strobes down. -/
theorem step_strobe_writesApplied {s t : State} (h : step s = .next t) (hrst : (nextPort s).1.rst = false)
    (hstrobe : (nextPort s).1.msStrobe = true) : ∃ recs, WritesApplied recs s.clearWe t := by
  rcases step_cases h with ⟨h1, _⟩ | ⟨_, _, _, _, rfl⟩ | ⟨_, _, h1, _⟩
  · simp [hrst] at h1
  · obtain ⟨recs, hact⟩ := afterAction_writesApplied (nextPort s).2.clearWe
    have hpush := acceptPush_writesApplied (nextPort s).2.hasRoom (nextPort s).1
      ((afterAction (nextPort s).2.clearWe).noteStrobe true)
    exact ⟨_, ((nextPort_writesApplied s).trans hact).trans hpush⟩
  · simp [hstrobe] at h1

/-- Any other edge leaves both write strobes down. -/
theorem step_no_strobe_dutyWe {s t : State} (h : step s = .next t)
    (hno : ¬ ((nextPort s).1.rst = false ∧ (nextPort s).1.msStrobe = true)) (ch : Channel) : t.dutyWe ch = false := by
  rcases step_cases h with ⟨_, rfl⟩ | ⟨h1, _, h2, _⟩ | ⟨_, _, _, rfl⟩
  · cases ch <;> rfl
  · exact absurd ⟨h1, h2⟩ hno
  · rw [(acceptPush_writesApplied _ _ _).dutyWe_eq]
    cases ch <;> rfl

/-- Settles O44: a strobe edge lowers the write strobes and then only writes, so they tell its writes; every other
edge leaves them down. -/
theorem writeStrobes : Obligations.WriteStrobes := by
  refine ⟨rfl, rfl, fun s t h => ?_⟩
  split
  · rename_i hport
    obtain ⟨recs, hw⟩ := step_strobe_writesApplied h hport.1 hport.2
    exact ⟨hw.dutyTrace_grows, hw.dutyWe_iff (ch := .ch0) rfl, hw.dutyWe_iff (ch := .ch1) rfl⟩
  · rename_i hport
    exact ⟨step_no_strobe_dutyWe h hport .ch0, step_no_strobe_dutyWe h hport .ch1⟩

/-! ### Reset -/

/-- The FIFO is empty after reset, so the port is ready as soon as `rst` is low (20_memory.md R52). -/
theorem reset_evReady (rst : Bool) : (State.reset.portOut rst).evReady = !rst := by cases rst <;> rfl

/-- A duty of 0 percent has width 0 (41_sequencer.md R142). -/
theorem dutyUs_zero : dutyUs 0 = 0 := by decide

/-- Settles O50: the registers are the fields of `State.reset`, and the port values follow from them. -/
theorem resetValues : Obligations.ResetValues :=
  ⟨rfl, rfl, rfl, rfl, rfl, rfl, rfl, rfl, rfl, rfl, rfl, rfl, rfl, rfl, dutyUs_zero, dutyUs_zero, rfl, rfl,
    reset_evReady true, reset_evReady false⟩

end Sys2Proof.Machine
end

