-- ==== Sys2Proof/Proofs/Encoding.lean ====
section
/-! The mnemonic table and the opcode map (30_encoding.md R80, R84). A row of the map says of a word what its tag is and, for a
button row, what its kind field is; so does the instruction the word decodes to, and the two are compared field by field. That
no two rows select one word is a property of the rows alone: where their masks overlap, their `match` values differ. -/

namespace Sys2Proof

/-! ### The words of the mnemonics -/

/-- The number of an event word (R70). -/
theorem toNat_eventWord (t : BitVec 2) (p : BitVec 16) : (eventWord t p).toNat = t.toNat * 2 ^ 16 + p.toNat := by
  rw [show eventWord t p = (t ++ p : BitVec (2 + 16)) from rfl, BitVec.toNat_append,
    ← Nat.shiftLeft_add_eq_or_of_lt p.isLt, Nat.shiftLeft_eq]

theorem encode_press (k : ButtonKind) : encode (.press k) = eventWord 0b00 (k.code.setWidth 16) := by cases k <;> rfl

theorem encode_pressPower : encode .pressPower = 0x00000 := by decide
theorem encode_pressWeak : encode .pressWeak = 0x00001 := by decide
theorem encode_pressStrong : encode .pressStrong = 0x00002 := by decide
theorem encode_pressNikomi : encode .pressNikomi = 0x00003 := by decide

/-- Settles O2: the four button words are closed, and a proximity word is its tag's number and its operand. -/
theorem encodeIsTheMnemonicTable : Obligations.EncodeIsTheMnemonicTable :=
  ⟨encode_pressPower, encode_pressWeak, encode_pressStrong, encode_pressNikomi,
    fun n => ⟨toNat_eventWord 0b01 n, toNat_eventWord 0b10 n⟩⟩

/-! ### What a word decodes to, by its fields -/

theorem tag_cases (t : BitVec 2) : t = 0b00 ∨ t = 0b01 ∨ t = 0b10 ∨ t = 0b11 := by revert t; decide

/-- The four cases of `Decode` (R76). -/
theorem decode_cases (w : EventWord) :
    (tagOf w = 0b00 ∧ decode w = .press (.ofCode (kindBits w)))
      ∨ (tagOf w = 0b01 ∧ decode w = .proxchg (payloadOf w))
      ∨ (tagOf w = 0b10 ∧ decode w = .proxcur (payloadOf w))
      ∨ (tagOf w = 0b11 ∧ decode w = .reserved) := by
  rcases tag_cases (tagOf w) with h | h | h | h <;> simp [decode, h]

theorem ButtonKind.ofCode_eq_iff {c : BitVec 2} {k : ButtonKind} : ButtonKind.ofCode c = k ↔ c = k.code := by
  cases k <;> revert c <;> decide

theorem Instr.press_inj {j k : ButtonKind} : Instr.press j = .press k ↔ j = k := by
  cases j <;> cases k <;> decide

@[simp] theorem Instr.press_ne_proxchg (k : ButtonKind) (p : Prox) : Instr.press k ≠ .proxchg p := by
  cases k <;> exact Instr.noConfusion

@[simp] theorem Instr.press_ne_proxcur (k : ButtonKind) (p : Prox) : Instr.press k ≠ .proxcur p := by
  cases k <;> exact Instr.noConfusion

@[simp] theorem Instr.press_ne_reserved (k : ButtonKind) : Instr.press k ≠ .reserved := by
  cases k <;> exact Instr.noConfusion

theorem decode_eq_press_iff {w : EventWord} {k : ButtonKind} :
    decode w = .press k ↔ tagOf w = 0b00 ∧ kindBits w = k.code := by
  rcases decode_cases w with ⟨ht, hd⟩ | ⟨ht, hd⟩ | ⟨ht, hd⟩ | ⟨ht, hd⟩ <;> rw [ht, hd]
  · simp [Instr.press_inj, ButtonKind.ofCode_eq_iff]
  · simp [(Instr.press_ne_proxchg k _).symm]
  · simp [(Instr.press_ne_proxcur k _).symm]
  · simp [(Instr.press_ne_reserved k).symm]

theorem decode_eq_proxchg_iff {w : EventWord} {p : Prox} :
    decode w = .proxchg p ↔ tagOf w = 0b01 ∧ payloadOf w = p := by
  rcases decode_cases w with ⟨ht, hd⟩ | ⟨ht, hd⟩ | ⟨ht, hd⟩ | ⟨ht, hd⟩ <;> simp [ht, hd]

theorem decode_eq_proxcur_iff {w : EventWord} {p : Prox} :
    decode w = .proxcur p ↔ tagOf w = 0b10 ∧ payloadOf w = p := by
  rcases decode_cases w with ⟨ht, hd⟩ | ⟨ht, hd⟩ | ⟨ht, hd⟩ | ⟨ht, hd⟩ <;> simp [ht, hd]

theorem decode_eq_reserved_iff {w : EventWord} : decode w = .reserved ↔ tagOf w = 0b11 := by
  rcases decode_cases w with ⟨ht, hd⟩ | ⟨ht, hd⟩ | ⟨ht, hd⟩ | ⟨ht, hd⟩ <;> simp [ht, hd]

/-! ### The rows of the map -/

theorem setWidth_kind_inj {c d : BitVec 2} : c.setWidth 16 = d.setWidth 16 ↔ c = d := by
  revert c d; decide

/-- A button row holds the words that decode to its command, and its `match` is the command's own word. -/
theorem and_buttonMask_eq_encode_iff {w : EventWord} {k : ButtonKind} :
    w &&& 0x30003 = encode (.press k) ↔ decode w = .press k := by
  rw [and_buttonMask, encode_press, eventWord_inj, setWidth_kind_inj, decode_eq_press_iff]

/-- The proximity and reserved rows select by the tag. -/
theorem and_tagMask_eq_iff {w : EventWord} {t : BitVec 2} : w &&& 0x30000 = eventWord t 0 ↔ tagOf w = t := by
  rw [and_tagMask, eventWord_inj, and_iff_left rfl]

theorem pressPower_row (w : EventWord) : w &&& 0x30003 = 0x00000 ↔ decode w = .pressPower := by
  rw [← encode_pressPower]; exact and_buttonMask_eq_encode_iff (k := .power)

theorem pressWeak_row (w : EventWord) : w &&& 0x30003 = 0x00001 ↔ decode w = .pressWeak := by
  rw [← encode_pressWeak]; exact and_buttonMask_eq_encode_iff (k := .weak)

theorem pressStrong_row (w : EventWord) : w &&& 0x30003 = 0x00002 ↔ decode w = .pressStrong := by
  rw [← encode_pressStrong]; exact and_buttonMask_eq_encode_iff (k := .strong)

theorem pressNikomi_row (w : EventWord) : w &&& 0x30003 = 0x00003 ↔ decode w = .pressNikomi := by
  rw [← encode_pressNikomi]; exact and_buttonMask_eq_encode_iff (k := .nikomi)

theorem proxchg_row (w : EventWord) : w &&& 0x30000 = 0x10000 ↔ decode w = .proxchg (payloadOf w) := by
  rw [decode_eq_proxchg_iff, and_iff_left rfl]; exact and_tagMask_eq_iff (t := 0b01)

theorem proxcur_row (w : EventWord) : w &&& 0x30000 = 0x20000 ↔ decode w = .proxcur (payloadOf w) := by
  rw [decode_eq_proxcur_iff, and_iff_left rfl]; exact and_tagMask_eq_iff (t := 0b10)

theorem reserved_row (w : EventWord) : w &&& 0x30000 = 0x30000 ↔ decode w = .reserved := by
  rw [decode_eq_reserved_iff]; exact and_tagMask_eq_iff (t := 0b11)

/-! ### One row for each word -/

theorem OpcodeRow.selectedBy_iff {r : OpcodeRow} {w : EventWord} : r.selectedBy w = true ↔ w &&& r.mask = r.bits :=
  beq_iff_eq

/-- Each word selects the row of the instruction it decodes to. -/
theorem exists_row_selectedBy (w : EventWord) : ∃ r ∈ opcodeMap, r.selectedBy w = true := by
  simp only [OpcodeRow.selectedBy_iff]
  cases h : decode w with
  | pressPower => exact ⟨⟨"PRESS_POWER", 0x00000, 0x30003⟩, by decide, (pressPower_row w).2 h⟩
  | pressWeak => exact ⟨⟨"PRESS_WEAK", 0x00001, 0x30003⟩, by decide, (pressWeak_row w).2 h⟩
  | pressStrong => exact ⟨⟨"PRESS_STRONG", 0x00002, 0x30003⟩, by decide, (pressStrong_row w).2 h⟩
  | pressNikomi => exact ⟨⟨"PRESS_NIKOMI", 0x00003, 0x30003⟩, by decide, (pressNikomi_row w).2 h⟩
  | proxchg p =>
    obtain ⟨_, rfl⟩ := decode_eq_proxchg_iff.1 h
    exact ⟨⟨"PROXCHG", 0x10000, 0x30000⟩, by decide, (proxchg_row w).2 h⟩
  | proxcur p =>
    obtain ⟨_, rfl⟩ := decode_eq_proxcur_iff.1 h
    exact ⟨⟨"PROXCUR", 0x20000, 0x30000⟩, by decide, (proxcur_row w).2 h⟩
  | reserved => exact ⟨⟨"reserved__Other", 0x30000, 0x30000⟩, by decide, (reserved_row w).2 h⟩

/-- Two rows whose `match` values agree on both masks are one row. -/
theorem opcodeMap_rows_differ :
    ∀ r ∈ opcodeMap, ∀ q ∈ opcodeMap, q.bits &&& r.mask = r.bits &&& q.mask → q = r := by decide

/-- No word selects two rows: on the bits that both masks keep, it would agree with both `match` values. -/
theorem row_selectedBy_unique {w : EventWord} {r q : OpcodeRow} (hr : r ∈ opcodeMap) (hq : q ∈ opcodeMap)
    (hwr : r.selectedBy w = true) (hwq : q.selectedBy w = true) : q = r := by
  rw [OpcodeRow.selectedBy_iff] at hwr hwq
  refine opcodeMap_rows_differ r hr q hq ?_
  calc q.bits &&& r.mask = w &&& q.mask &&& r.mask := by rw [hwq]
    _ = w &&& r.mask &&& q.mask := by rw [BitVec.and_assoc, BitVec.and_comm q.mask, BitVec.and_assoc]
    _ = r.bits &&& q.mask := by rw [hwr]

/-- Settles O3: the seven rows one by one, then the one row that a word selects. -/
theorem opcodeMapDecodesEveryWord : Obligations.OpcodeMapDecodesEveryWord := by
  intro w
  obtain ⟨r, hr, hwr⟩ := exists_row_selectedBy w
  exact ⟨pressPower_row w, pressWeak_row w, pressStrong_row w, pressNikomi_row w, proxchg_row w, proxcur_row w,
    reserved_row w, r, hr, hwr, fun _ hq hwq => row_selectedBy_unique hr hq hwr hwq⟩

end Sys2Proof
end

