-- ==== Sys2Proof/Proofs/StateMachine.lean ====
section
/-! The state machine (40_state_machine.md R101 to R106, R110, R115, R116). An event command's result is read off the transition
function (`exec_of_next`), since `Laws/Tick` says what the output action and the frame of every tick are. The transition
function reads a proximity value in five of its rows only; each of those has its equation, and the table and the commands both
go by them. -/

namespace Sys2Proof.Machine

/-! ### The rows that read a proximity value -/

/-- The test `p > 3500`, in the spelling of R115's table. -/
theorem ite_isFar {α : Type} (p : Prox) (far near : α) :
    (if isFar p then far else near) = if p.toNat ≤ 3500 then near else far := by
  rw [← ite_not]; simp

theorem next_standby_changed (l : Level) (p : Prox) :
    nextModeLevel .standby l (.changed p) = (if p.toNat < 1500 then .powerOn else .standby, l) := by
  simp only [nextModeLevel, nextStandby, isNear_eq_true]; split <;> rfl

theorem next_standby_current (l : Level) (p : Prox) :
    nextModeLevel .standby l (.current p) = (if p.toNat < 1500 then .powerOn else .standby, l) :=
  next_standby_changed l p

theorem next_powerOn_changed (l : Level) (p : Prox) :
    nextModeLevel .powerOn l (.changed p) = (if p.toNat ≤ 3500 then .panShake else .standby, l) := by
  rw [nextModeLevel, nextPowerOn, ite_isFar]; split <;> rfl

theorem next_panShake_changed (l : Level) (p : Prox) :
    nextModeLevel .panShake l (.changed p) = (if p.toNat ≤ 3500 then .powerOn else .standby, l) := by
  rw [nextModeLevel, nextPanShake, ite_isFar]; split <;> rfl

theorem next_nikomi_changed (l : Level) (p : Prox) :
    nextModeLevel .nikomi l (.changed p) = (if p.toNat ≤ 3500 then .panShake else .nikomi, l) := by
  rw [nextModeLevel, nextNikomi, ite_isFar]; split <;> rfl

/-! ### The table, column by column -/

/-- In every mode, the event has at level `l` the next mode and the level that column `c` of R103 lists. -/
def FollowsColumn (l : Level) (ev : Event) (c : Column) : Prop :=
  ∀ m : Mode, (nextModeLevel m l ev).1 = (tableCell m c).1
    ∧ (nextModeLevel m l ev).2.toNat = (tableCell m c).2.apply l.toNat

theorem none_followsColumn (l : Level) : FollowsColumn l .none .none := by
  intro m; cases m <;> exact ⟨rfl, rfl⟩

theorem power_followsColumn (l : Level) : FollowsColumn l (.button .power) .power := by
  intro m; cases m <;> exact ⟨rfl, rfl⟩

theorem nikomi_followsColumn (l : Level) : FollowsColumn l (.button .nikomi) .nikomi := by
  intro m; cases m <;> exact ⟨rfl, rfl⟩

theorem other_followsColumn (l : Level) : FollowsColumn l .other .other := by
  intro m; cases m <;> exact ⟨rfl, rfl⟩

theorem weak_followsColumn_at0 {l : Level} (h : l.toNat = 0) : FollowsColumn l (.button .weak) .weakAt0 := by
  have hshared : (weakFrom l).1 = .powerOn ∧ (weakFrom l).2.toNat = l.toNat := by
    simp [weakFrom_mode, weakFrom_level, h]
  intro m
  cases m with
  | powerOn | nikomi => exact hshared
  | powerOff | standby | panShake | levelUp | levelDown => exact ⟨rfl, rfl⟩

theorem weak_followsColumn_above0 {l : Level} (h : l.toNat ≠ 0) : FollowsColumn l (.button .weak) .weakAbove0 := by
  have hshared : (weakFrom l).1 = .levelDown ∧ (weakFrom l).2.toNat = l.toNat - 1 := by
    simp [weakFrom_mode, weakFrom_level, Nat.pos_of_ne_zero h]
  intro m
  cases m with
  | powerOn | nikomi => exact hshared
  | powerOff | standby | panShake | levelUp | levelDown => exact ⟨rfl, rfl⟩

theorem strong_followsColumn_at9 {l : Level} (h : l.toNat = 9) : FollowsColumn l (.button .strong) .strongAt9 := by
  have hshared : (strongFrom l).1 = .powerOn ∧ (strongFrom l).2.toNat = l.toNat := by
    simp [strongFrom_mode, strongFrom_level, h]
  intro m
  cases m with
  | powerOn | nikomi => exact hshared
  | powerOff | standby | panShake | levelUp | levelDown => exact ⟨rfl, rfl⟩

theorem strong_followsColumn_below9 {l : Level} (h : l.toNat < 9) :
    FollowsColumn l (.button .strong) .strongBelow9 := by
  have hshared : (strongFrom l).1 = .levelUp ∧ (strongFrom l).2.toNat = l.toNat + 1 := by
    simp [strongFrom_mode, strongFrom_level, h]
  intro m
  cases m with
  | powerOn | nikomi => exact hshared
  | powerOff | standby | panShake | levelUp | levelDown => exact ⟨rfl, rfl⟩

theorem changed_followsColumn_near {l : Level} {p : Prox} (h : p.toNat < 1500) :
    FollowsColumn l (.changed p) .changedNear := by
  have hband : p.toNat ≤ 3500 := by omega
  intro m
  cases m with
  | standby => simp [next_standby_changed, h, tableCell, LevelChange.apply]
  | powerOn => simp [next_powerOn_changed, hband, tableCell, LevelChange.apply]
  | panShake => simp [next_panShake_changed, hband, tableCell, LevelChange.apply]
  | nikomi => simp [next_nikomi_changed, hband, tableCell, LevelChange.apply]
  | powerOff | levelUp | levelDown => exact ⟨rfl, rfl⟩

theorem changed_followsColumn_band {l : Level} {p : Prox} (h : ¬ p.toNat < 1500) (hband : p.toNat ≤ 3500) :
    FollowsColumn l (.changed p) .changedBand := by
  intro m
  cases m with
  | standby => simp [next_standby_changed, h, tableCell, LevelChange.apply]
  | powerOn => simp [next_powerOn_changed, hband, tableCell, LevelChange.apply]
  | panShake => simp [next_panShake_changed, hband, tableCell, LevelChange.apply]
  | nikomi => simp [next_nikomi_changed, hband, tableCell, LevelChange.apply]
  | powerOff | levelUp | levelDown => exact ⟨rfl, rfl⟩

theorem changed_followsColumn_far {l : Level} {p : Prox} (h : ¬ p.toNat ≤ 3500) :
    FollowsColumn l (.changed p) .changedFar := by
  have hnear : ¬ p.toNat < 1500 := by omega
  intro m
  cases m with
  | standby => simp [next_standby_changed, hnear, tableCell, LevelChange.apply]
  | powerOn => simp [next_powerOn_changed, h, tableCell, LevelChange.apply]
  | panShake => simp [next_panShake_changed, h, tableCell, LevelChange.apply]
  | nikomi => simp [next_nikomi_changed, h, tableCell, LevelChange.apply]
  | powerOff | levelUp | levelDown => exact ⟨rfl, rfl⟩

theorem current_followsColumn_near {l : Level} {p : Prox} (h : p.toNat < 1500) :
    FollowsColumn l (.current p) .currentNear := by
  intro m
  cases m with
  | standby => rw [next_standby_current, if_pos h]; exact ⟨rfl, rfl⟩
  | powerOff | powerOn | panShake | nikomi | levelUp | levelDown => exact ⟨rfl, rfl⟩

theorem current_followsColumn_notNear {l : Level} {p : Prox} (h : ¬ p.toNat < 1500) :
    FollowsColumn l (.current p) .currentNotNear := by
  intro m
  cases m with
  | standby => rw [next_standby_current, if_neg h]; exact ⟨rfl, rfl⟩
  | powerOff | powerOn | panShake | nikomi | levelUp | levelDown => exact ⟨rfl, rfl⟩

/-- Each event follows the column it falls under. Level 9 has to be the top one only for `PRESS STRONG`. -/
theorem followsColumn_columnOf {l : Level} (hl : l.toNat ≤ 9) (ev : Event) : FollowsColumn l ev (columnOf l ev) := by
  cases ev with
  | none => exact none_followsColumn l
  | other => exact other_followsColumn l
  | button k =>
    cases k with
    | power => exact power_followsColumn l
    | nikomi => exact nikomi_followsColumn l
    | weak =>
      by_cases h : l.toNat = 0
      · rw [columnOf, if_pos h]; exact weak_followsColumn_at0 h
      · rw [columnOf, if_neg h]; exact weak_followsColumn_above0 h
    | strong =>
      by_cases h : l.toNat = 9
      · rw [columnOf, if_pos h]; exact strong_followsColumn_at9 h
      · rw [columnOf, if_neg h]; exact strong_followsColumn_below9 (by omega)
  | changed p =>
    by_cases hnear : p.toNat < 1500
    · rw [columnOf, if_pos hnear]; exact changed_followsColumn_near hnear
    · by_cases hband : p.toNat ≤ 3500
      · rw [columnOf, if_neg hnear, if_pos hband]; exact changed_followsColumn_band hnear hband
      · rw [columnOf, if_neg hnear, if_neg hband]; exact changed_followsColumn_far hband
  | current p =>
    by_cases h : p.toNat < 1500
    · rw [columnOf, if_pos h]; exact current_followsColumn_near h
    · rw [columnOf, if_neg h]; exact current_followsColumn_notNear h

/-- Settles O9: every event's column, at every mode. -/
theorem transitionFunctionIsTheTable : Obligations.TransitionFunctionIsTheTable :=
  fun m _ ev hl => followsColumn_columnOf hl ev m

/-! ### The event commands -/

/-- An event command completes with the mode and level that the transition function gives; the rest is the output action and
the frame of a tick (R101, R104). -/
theorem exec_of_next {i : Instr} {s : State} {m : Mode} {l : Level}
    (h : nextModeLevel s.mode s.level (eventOf i) = (m, l)) :
    ∃ t, exec i s = .next t ∧ t.mode = m ∧ t.level = l ∧ OutputAction s t ∧ TickFrame s t :=
  ⟨applyEvent (eventOf i) s, exec_eq i s, by rw [applyEvent_mode, h], by rw [applyEvent_level, h],
    applyEvent_output (eventOf i) s, applyEvent_frame (eventOf i) s⟩

/-- Settles O10: no row of R110's table reads the level. -/
theorem pressPowerResult : Obligations.PressPowerResult := by
  refine ⟨fun w => (pressPower_row w).1, fun s => exec_of_next ?_⟩
  cases s.mode <;> rfl

/-- Settles O15: in Standby the bound is 1500, in PowerOn, PanShake and Nikomi it is 3500, and the other modes read no bound. -/
theorem proxchgResult : Obligations.ProxchgResult := by
  refine ⟨fun w => (proxchg_row w).1, fun p s => exec_of_next ?_⟩
  cases s.mode with
  | standby => exact next_standby_changed s.level p
  | powerOn => exact next_powerOn_changed s.level p
  | panShake => exact next_panShake_changed s.level p
  | nikomi => exact next_nikomi_changed s.level p
  | powerOff | levelUp | levelDown => rfl

/-- Settles O16: only Standby reads the value. -/
theorem proxcurResult : Obligations.ProxcurResult := by
  refine ⟨fun w => (proxcur_row w).1, fun p s => exec_of_next ?_⟩
  cases s.mode with
  | standby => exact next_standby_current s.level p
  | powerOff | powerOn | panShake | nikomi | levelUp | levelDown => rfl

/-! ### The transient modes -/

/-- The take is no part of the output action. -/
theorem OutputAction.of_dropOldest {s t : State} (h : OutputAction s.dropOldest t) : OutputAction s t := h

/-- A tick consumes the oldest word and then does the output action of the mode it comes to (R101). -/
theorem tick_result (s : State) : ∃ t, tick s = .next t ∧ t.fifo = s.fifo.tail ∧ OutputAction s t
    ∧ t.mode = (nextModeLevel s.mode s.level (nextEvent s)).1
    ∧ t.level = (nextModeLevel s.mode s.level (nextEvent s)).2 :=
  ⟨applyEvent (nextEvent s) s.dropOldest, tick_eq s, (applyEvent_frame (nextEvent s) s.dropOldest).1,
    (applyEvent_output (nextEvent s) s.dropOldest).of_dropOldest, applyEvent_mode _ _, applyEvent_level _ _⟩

theorem next_levelUp_or_levelDown {m : Mode} (h : m = .levelUp ∨ m = .levelDown) (l : Level) (ev : Event) :
    nextModeLevel m l ev = (.powerOn, l) := by
  rcases h with rfl | rfl <;> rfl

/-- PanShake lasts one decision, by the word that the decision takes (R106 (b)). -/
theorem next_panShake_nextEvent (s : State) (l : Level) :
    nextModeLevel .panShake l (nextEvent s) = (match s.fifo.head?.map decode with
      | some .pressPower => .powerOff
      | some (.proxchg p) => if 3500 < p.toNat then .standby else .powerOn
      | _ => .powerOn, l) := by
  unfold nextEvent
  cases s.fifo with
  | nil => rfl
  | cons w ws =>
    simp only [List.head?_cons, Option.map_some]
    cases decode w with
    | proxchg p => rw [eventOf, next_panShake_changed, ← ite_not]; simp
    | pressPower | pressWeak | pressStrong | pressNikomi | proxcur p | reserved => rfl

/-- Settles O19: the mode after the tick, by the row of each transient mode. -/
theorem transientModesLastOneDecision : Obligations.TransientModesLastOneDecision := by
  intro s
  obtain ⟨t, htick, hfifo, hout, hmode, hlevel⟩ := tick_result s
  refine ⟨t, htick, hfifo, hout, fun h => ?_, fun h => ?_⟩
  · rw [next_levelUp_or_levelDown h] at hmode hlevel
    exact ⟨hmode, hlevel⟩
  · rw [h, next_panShake_nextEvent] at hmode hlevel
    exact ⟨hlevel, hmode⟩

end Sys2Proof.Machine
end

