-- ==== Sys2Proof/Proofs/Sequencer.lean ====
section
/-! The scripts' durations and writes (41_sequencer.md R144) and the duty width (R142). The writes to one channel are counted
primitive by primitive (R143), so no timeline is written out: a script's count is the sum of its primitives' counts, and a
ramp's count and duration are both its number of values, `distance a b + 1`, times a constant. -/

namespace Sys2Proof.Machine

/-! ### The lengths of the scripts' ramps -/

theorem distance_zero_left (T : Pct) : distance 0 T = T.toNat := by simp [distance]

theorem distance_zero_right (T : Pct) : distance T 0 = T.toNat := by simp [distance]

theorem distance_flash : distance Config.flashLo Config.flashHi = 50 := by decide

/-- The level-change flash falls from 100 to the target, which is no greater. -/
theorem distance_flashHi {T : Pct} (hT : T.toNat ≤ 100) : distance Config.flashHi T = 100 - T.toNat := by
  have hhi : Config.flashHi.toNat = 100 := rfl
  rw [distance, hhi]
  omega

/-! ### Durations -/

theorem duration_off (T : Pct) : scriptDuration (script .off T) = 10 * (T.toNat + 1) := by
  have hstep : Config.offStepMs.toNat = 10 := rfl
  simp only [script, scriptDuration, Prim.duration, distance_zero_right, hstep]
  omega

theorem duration_stby (T : Pct) : scriptDuration (script .stby T) = 20 * (T.toNat + 1) + 500 := by
  have hstep : Config.stbyStepMs.toNat = 10 := rfl
  have hpause : Config.pauseMs.toNat = 500 := rfl
  simp only [script, scriptDuration, Prim.duration, distance_zero_left, distance_zero_right, hstep, hpause]
  omega

theorem duration_on (T : Pct) : scriptDuration (script .on T) = 0 := rfl

theorem duration_shake (T : Pct) : scriptDuration (script .shake T) = 10 * (T.toNat + 1) + 500 := by
  have hstep : Config.shakeStepMs.toNat = 5 := rfl
  have hpause : Config.pauseMs.toNat = 500 := rfl
  simp only [script, scriptDuration, Prim.duration, distance_zero_left, hstep, hpause]
  omega

theorem duration_level {T : Pct} (hT : T.toNat ≤ 100) : scriptDuration (script .level T) = 5 * (152 - T.toNat) := by
  have hstep : Config.lvlStepMs.toNat = 5 := rfl
  simp only [script, scriptDuration, Prim.duration, distance_flash, distance_flashHi hT, hstep]
  omega

/-! ### Writes per channel -/

/-- How often a primitive writes the channel `ch`: once for each of its values, if `ch` is one of its channels (R143). -/
def Prim.writeCount (ch : Channel) : Prim → Nat
  | .set chs _ => chs.count ch
  | .ramp chs a b _ => (distance a b + 1) * chs.count ch
  | .pause _ => 0

/-- Both channels are written once by a write to both. -/
theorem count_both (ch : Channel) : both.count ch = 1 := by cases ch <;> decide

/-- One write to each channel of a list, as a SET and each value of a RAMP make it. -/
theorem length_filter_write (tau : Nat) (v : Pct) (chs : List Channel) (ch : Channel) :
    ((chs.map fun c => (⟨tau, c, v⟩ : DutyRecord)).filter fun r => r.ch = ch).length = chs.count ch := by
  rw [List.filter_map, List.length_map, List.count, List.countP_eq_length_filter]
  rfl

theorem length_filter_writes (p : Prim) (start : Nat) (ch : Channel) :
    ((p.writes start).filter fun r => r.ch = ch).length = p.writeCount ch := by
  cases p with
  | set chs v => exact length_filter_write start v chs ch
  | ramp chs a b step =>
    simp only [Prim.writes, Prim.writeCount, List.filter_flatMap, List.length_flatMap, length_filter_write,
      List.map_const', List.sum_replicate, List.length_range, smul_eq_mul]
  | pause d => rfl

/-- The writes of a timeline to a channel, whenever it starts. -/
theorem length_filter_timeline (ps : List Prim) (start : Nat) (ch : Channel) :
    ((timeline start ps).filter fun r => r.ch = ch).length = (ps.map (Prim.writeCount ch)).sum := by
  induction ps generalizing start with
  | nil => rfl
  | cons p ps ih =>
    rw [timeline, List.filter_append, List.length_append, length_filter_writes, ih, List.map_cons, List.sum_cons]

/-- Settles O23: the scripts are the model's, the constants being R5's; durations and counts add up over the primitives. -/
theorem scriptDurationsAndWrites : Obligations.ScriptDurationsAndWrites := by
  intro T start hT
  refine ⟨⟨rfl, rfl, rfl, rfl, rfl⟩,
    ⟨duration_off T, duration_stby T, duration_on T, duration_shake T, duration_level hT⟩, fun anim ch => ?_⟩
  rw [length_filter_timeline]
  cases anim with
  | on => simp [script, Prim.writeCount, count_both]
  | off | stby | shake =>
    simp only [script, List.map_cons, List.map_nil, List.sum_cons, List.sum_nil, Prim.writeCount, count_both,
      distance_zero_left, distance_zero_right]
    omega
  | level =>
    cases ch with
    | ch0 =>
      show 0 + ((distance Config.flashLo Config.flashHi + 1) * 1 + ((distance Config.flashHi T + 1) * 1 + 0))
        = 152 - T.toNat
      rw [distance_flash, distance_flashHi hT]
      omega
    | ch1 => rfl

/-! ### The duty width -/

/-- The division by 100 is exact, and the width fits its twelve bits (R142). -/
theorem toNat_dutyUs {v : Pct} (hv : v ≤ 100) : (dutyUs v).toNat = 25 * v.toNat := by
  have hle : v.toNat ≤ 100 := hv
  have hquot : Config.maxDutyMicro * v.toNat / 100 = 25 * v.toNat := by
    rw [show Config.maxDutyMicro = 100 * 25 from rfl, Nat.mul_assoc, Nat.mul_div_cancel_left _ (by decide)]
  rw [dutyUs, hquot, BitVec.toNat_ofNat]
  omega

/-- Settles O45: each port shows the width of its channel's percentage. -/
theorem dutyWidthIsExact : Obligations.DutyWidthIsExact := by
  intro s rst h0 h1
  have hus0 : (s.portOut rst).dutyUs0.toNat = 25 * s.duty0.toNat := toNat_dutyUs h0
  have hus1 : (s.portOut rst).dutyUs1.toNat = 25 * s.duty1.toNat := toNat_dutyUs h1
  have hle0 : s.duty0.toNat ≤ 100 := h0
  have hle1 : s.duty1.toNat ≤ 100 := h1
  exact ⟨hus0, by omega, hus1, by omega, by omega, by omega⟩

end Sys2Proof.Machine
end

section
/-! Decoding what was encoded, and the words of the spec (30_encoding.md R76, R77, R84). -/

namespace Sys2Proof

/-! ### Decoding what was encoded -/

theorem extractLsb'_kind (k : ButtonKind) : (k.code.setWidth 16).extractLsb' 0 2 = k.code := by cases k <;> rfl

theorem decode_encode_press (k : ButtonKind) : decode (encode (.press k)) = .press k := by
  rw [decode_eq_press_iff, encode_press, tagOf_eventWord, kindBits_eventWord, extractLsb'_kind]
  exact ⟨rfl, rfl⟩

/-- Decoding inverts encoding: the tag picks the row, and the payload gives back the kind or the operand (R76, R84). -/
theorem decode_encode (i : Instr) : decode (encode i) = i := by
  cases i with
  | pressPower => exact decode_encode_press .power
  | pressWeak => exact decode_encode_press .weak
  | pressStrong => exact decode_encode_press .strong
  | pressNikomi => exact decode_encode_press .nikomi
  | proxchg p => exact decode_eq_proxchg_iff.2 ⟨tagOf_eventWord _ p, payloadOf_eventWord _ p⟩
  | proxcur p => exact decode_eq_proxcur_iff.2 ⟨tagOf_eventWord _ p, payloadOf_eventWord _ p⟩
  | reserved => exact decode_eq_reserved_iff.2 (tagOf_eventWord _ 0)

/-- The number of an event word decodes as the word does (R70, R76). -/
theorem decodeNumber_toNat (w : EventWord) : decodeNumber w.toNat = .ok (decode w) := by
  rw [decodeNumber, if_pos w.isLt, BitVec.ofNat_toNat, BitVec.setWidth_eq]

/-- Settles O1: the decoder undoes the encoder on words, and a word's number decodes as the word. -/
theorem decodeInvertsEncode : Obligations.DecodeInvertsEncode :=
  fun i _ => ⟨decode_encode i, by rw [decodeNumber_toNat, decode_encode]⟩

/-! ### The words of the spec -/

/-- Settles O4: ten closed words. -/
theorem specWordsDecodeAsListed : Obligations.SpecWordsDecodeAsListed := by
  unfold Obligations.SpecWordsDecodeAsListed
  decide

/-- A button word decodes by its tag and its kind field. -/
theorem decode_of_button_tag {w : EventWord} (h : tagOf w = 0) : decode w = .press (.ofCode (kindBits w)) := if_pos h

/-- Settles O5: a button word decodes by its kind field, a word with tag 3 by its tag. -/
theorem ignoredBitsDoNotMatter : Obligations.IgnoredBitsDoNotMatter := by
  intro v w htag
  refine ⟨fun hv hkind => ?_, fun hv => ?_⟩
  · have hkind' : kindBits v = kindBits w := hkind
    rw [decode_of_button_tag hv, decode_of_button_tag (htag.symm.trans hv), hkind']
  · rw [decode_eq_reserved_iff.2 hv, decode_eq_reserved_iff.2 (htag.symm.trans hv)]

end Sys2Proof
end

section
/-! The event commands that `Proofs/StateMachine` leaves open, and what a tick keeps (40_state_machine.md R102, R111 to R114,
R117; 10_state.md R22). -/

namespace Sys2Proof.Machine

/-! ### Results of the commands -/

theorem next_none_eq_other (m : Mode) (l : Level) : nextModeLevel m l .none = nextModeLevel m l .other := by cases m <;> rfl

/-- The modes that read a press of Weak share `weakFrom`; the others keep the level (R111). -/
theorem next_weak_mode (m : Mode) (l : Level) : (nextModeLevel m l (.button .weak)).1 = (match m with
    | .powerOn => if 0 < l.toNat then .levelDown else .powerOn
    | .nikomi => if 0 < l.toNat then .levelDown else .powerOn
    | .powerOff => .powerOff
    | .standby => .standby
    | .panShake => .powerOn
    | .levelUp => .powerOn
    | .levelDown => .powerOn) := by
  cases m with
  | powerOn | nikomi => exact weakFrom_mode l
  | powerOff | standby | panShake | levelUp | levelDown => rfl

theorem next_weak_level (m : Mode) (l : Level) : (nextModeLevel m l (.button .weak)).2.toNat
    = if m = .powerOn ∨ m = .nikomi then l.toNat - 1 else l.toNat := by
  cases m with
  | powerOn | nikomi => exact weakFrom_level l
  | powerOff | standby | panShake | levelUp | levelDown => rfl

/-- The modes that read a press of Strong share `strongFrom`; the others keep the level (R112). -/
theorem next_strong_mode (m : Mode) (l : Level) : (nextModeLevel m l (.button .strong)).1 = (match m with
    | .powerOn => if l.toNat < 9 then .levelUp else .powerOn
    | .nikomi => if l.toNat < 9 then .levelUp else .powerOn
    | .powerOff => .powerOff
    | .standby => .standby
    | .panShake => .powerOn
    | .levelUp => .powerOn
    | .levelDown => .powerOn) := by
  cases m with
  | powerOn | nikomi => exact strongFrom_mode l
  | powerOff | standby | panShake | levelUp | levelDown => rfl

theorem strongFrom_level_min {l : Level} (hl : l.toNat ≤ 9) : (strongFrom l).2.toNat = min 9 (l.toNat + 1) := by
  rw [strongFrom_level]
  split <;> omega

theorem next_strong_level (m : Mode) {l : Level} (hl : l.toNat ≤ 9) : (nextModeLevel m l (.button .strong)).2.toNat
    = if m = .powerOn ∨ m = .nikomi then min 9 (l.toNat + 1) else l.toNat := by
  cases m with
  | powerOn | nikomi => exact strongFrom_level_min hl
  | powerOff | standby | panShake | levelUp | levelDown => rfl

/-- Settles O11: the mode and the level are those of the transition function. -/
theorem pressWeakResult : Obligations.PressWeakResult := by
  intro s
  obtain ⟨t, hexec, hmode, hlevel, hrest⟩ := exec_of_next (i := .pressWeak) (s := s) rfl
  exact ⟨t, hexec, hmode.trans (next_weak_mode s.mode s.level), by rw [hlevel]; exact next_weak_level s.mode s.level, hrest⟩

/-- Settles O12: likewise, and level 9 is the top. -/
theorem pressStrongResult : Obligations.PressStrongResult := by
  intro s hl
  obtain ⟨t, hexec, hmode, hlevel, hrest⟩ := exec_of_next (i := .pressStrong) (s := s) rfl
  exact ⟨t, hexec, hmode.trans (next_strong_mode s.mode s.level), by rw [hlevel]; exact next_strong_level s.mode hl, hrest⟩

/-- Settles O13: no row of R113's list reads the level. -/
theorem pressNikomiResult : Obligations.PressNikomiResult := by
  intro s
  refine exec_of_next ?_
  cases s.mode <;> rfl

/-- Settles O17: the reserved word only ends the transient modes. -/
theorem reservedWordResult : Obligations.ReservedWordResult := by
  intro s
  refine exec_of_next ?_
  cases s.mode <;> rfl

theorem emptyTick_eq (s : State) : emptyTick s = .next (applyEvent .none s) := rfl

/-- No event and an ignored one are the same tick (R114, R117). -/
theorem applyEvent_none_eq_other (s : State) : applyEvent .none s = applyEvent .other s := by
  unfold applyEvent
  rw [next_none_eq_other]

theorem emptyTick_eq_exec_reserved (s : State) : emptyTick s = exec .reserved s := by
  rw [emptyTick_eq, applyEvent_none_eq_other, exec_eq, eventOf]

/-- Settles O14: the empty tick is the tick of the reserved word. -/
theorem emptyTickResult : Obligations.EmptyTickResult := by
  intro s
  rw [emptyTick_eq_exec_reserved]
  exact reservedWordResult s

/-! ### What a tick keeps -/

/-- The transition function changes the level on a press of Weak or Strong only (10_state.md R22). -/
theorem next_keeps_level {ev : Event} (hweak : ev ≠ .button .weak) (hstrong : ev ≠ .button .strong) (m : Mode) (l : Level) :
    (nextModeLevel m l ev).2 = l := by
  cases ev with
  | none | other => cases m <;> rfl
  | button k =>
    cases k with
    | weak => exact absurd rfl hweak
    | strong => exact absurd rfl hstrong
    | power | nikomi => cases m <;> rfl
  | changed p =>
    cases m with
    | standby => rw [next_standby_changed]
    | powerOn => rw [next_powerOn_changed]
    | panShake => rw [next_panShake_changed]
    | nikomi => rw [next_nikomi_changed]
    | powerOff | levelUp | levelDown => rfl
  | current p =>
    cases m with
    | standby => rw [next_standby_current]
    | powerOff | powerOn | panShake | nikomi | levelUp | levelDown => rfl

/-- The level stays in 0 to 9, whatever the event. -/
theorem next_level_le {l : Level} (hl : l.toNat ≤ 9) (m : Mode) (ev : Event) : (nextModeLevel m l ev).2.toNat ≤ 9 := by
  by_cases hweak : ev = .button .weak
  · rw [hweak, next_weak_level]
    split <;> omega
  · by_cases hstrong : ev = .button .strong
    · rw [hstrong, next_strong_level m hl]
      split <;> omega
    · rw [next_keeps_level hweak hstrong]
      exact hl

theorem exec_next_eq {i : Instr} {s t : State} (h : exec i s = .next t) : t = applyEvent (eventOf i) s := by
  rw [exec_eq] at h
  exact (Host.Outcome.next.inj h).symm

theorem eventOf_eq_button {i : Instr} {k : ButtonKind} : eventOf i = .button k ↔ i = .press k := by
  cases i <;> cases k <;> simp [eventOf, Instr.press]

theorem exec_keeps_level {i : Instr} {s t : State} (h : exec i s = .next t) (hweak : i ≠ .pressWeak)
    (hstrong : i ≠ .pressStrong) : t.level = s.level := by
  rw [exec_next_eq h, applyEvent_level]
  exact next_keeps_level (fun e => hweak (eventOf_eq_button.1 e)) (fun e => hstrong (eventOf_eq_button.1 e)) s.mode s.level

/-- Nikomi is left on four commands only (R113). -/
theorem next_nikomi_ne_iff (i : Instr) (l : Level) : (nextModeLevel .nikomi l (eventOf i)).1 ≠ .nikomi ↔
    i = .pressPower ∨ i = .pressWeak ∨ i = .pressStrong ∨ ∃ p, i = .proxchg p ∧ p.toNat ≤ 3500 := by
  cases i with
  | pressPower => simp [eventOf, nextModeLevel, nextNikomi]
  | pressWeak =>
    have hleaves : (weakFrom l).1 ≠ .nikomi := by rw [weakFrom_mode]; split <;> decide
    simpa [eventOf, nextModeLevel, nextNikomi] using hleaves
  | pressStrong =>
    have hleaves : (strongFrom l).1 ≠ .nikomi := by rw [strongFrom_mode]; split <;> decide
    simpa [eventOf, nextModeLevel, nextNikomi] using hleaves
  | pressNikomi | reserved => simp [eventOf, nextModeLevel, nextNikomi]
  | proxcur p => simp [eventOf, nextModeLevel, nextNikomi]
  | proxchg p =>
    rw [eventOf, next_nikomi_changed]
    by_cases h : p.toNat ≤ 3500 <;> simp [h]

/-- Settles O20: the mode after the command is the transition function's. -/
theorem waysOutOfNikomi : Obligations.WaysOutOfNikomi := by
  intro i s t hmode h
  rw [exec_next_eq h, applyEvent_mode, hmode]
  exact next_nikomi_ne_iff i s.level

theorem next_powerOff_stays {ev : Event} (h : ev ≠ .button .power) (l : Level) :
    nextModeLevel .powerOff l ev = (.powerOff, l) := by
  cases ev with
  | button k =>
    cases k with
    | power => exact absurd rfl h
    | weak | strong | nikomi => rfl
  | none | changed p | current p | other => rfl

/-- In PowerOff any event but a press of Power changes nothing at all (R102, R104). -/
theorem applyEvent_powerOff {ev : Event} {s : State} (hoff : s.mode = .powerOff) (hev : ev ≠ .button .power) :
    applyEvent ev s = s :=
  applyEvent_stays (by rw [hoff]; exact next_powerOff_stays hev s.level) (by rw [hoff]; decide)

/-- Settles O21: PowerOff's row has one way out. -/
theorem powerOffIgnoresAllButPower : Obligations.PowerOffIgnoresAllButPower := by
  refine fun s hoff => ⟨fun i hi => ?_, ?_⟩
  · rw [exec_eq, applyEvent_powerOff hoff fun e => hi (eventOf_eq_button.1 e)]
  · rw [emptyTick_eq, applyEvent_powerOff hoff Event.noConfusion]

/-- A reading of at least 1500 keeps Standby as it is. -/
theorem applyEvent_prox_standby {i : Instr} {p : Prox} {s : State} (hi : i = .proxchg p ∨ i = .proxcur p) (hp : 1500 ≤ p.toNat)
    (hs : s.mode = .standby) : applyEvent (eventOf i) s = s := by
  have hnear : ¬ p.toNat < 1500 := by omega
  refine applyEvent_stays ?_ (by rw [hs]; decide)
  rcases hi with rfl | rfl
  · rw [hs, eventOf, next_standby_changed, if_neg hnear]
  · rw [hs, eventOf, next_standby_current, if_neg hnear]

/-- A reading of at most 3500 does not send PowerOn to Standby. -/
theorem next_prox_powerOn {i : Instr} {p : Prox} (hi : i = .proxchg p ∨ i = .proxcur p) (hp : p.toNat ≤ 3500) (l : Level) :
    (nextModeLevel .powerOn l (eventOf i)).1 ≠ .standby := by
  rcases hi with rfl | rfl
  · rw [eventOf, next_powerOn_changed, if_pos hp]; exact Mode.noConfusion
  · exact Mode.noConfusion

/-- Settles O22: the two bounds, each in the row that reads it. -/
theorem hysteresisBand : Obligations.HysteresisBand := by
  intro p s i hlo hhi hi
  refine ⟨applyEvent (eventOf i) s, exec_eq i s, applyEvent_prox_standby hi hlo, fun hon => ?_⟩
  rw [applyEvent_mode, hon]
  exact next_prox_powerOn hi hhi s.level

end Sys2Proof.Machine
end

section
/-! What a step does to each part of the state (10_state.md R40, R41): the environment's move, the push, the millisecond action
and its two shapes, each said once; then the statements about steps, the FIFO, the ports, time, reset and refusals. -/

namespace Sys2Proof.Machine

/-! ### The environment's move -/

section
variable (s : State)

@[simp] theorem nextPort_mode : (nextPort s).2.mode = s.mode := by obtain ⟨_, _, h⟩ := nextPort_state s; rw [h]
@[simp] theorem nextPort_level : (nextPort s).2.level = s.level := by obtain ⟨_, _, h⟩ := nextPort_state s; rw [h]
@[simp] theorem nextPort_flickT : (nextPort s).2.flickT = s.flickT := by obtain ⟨_, _, h⟩ := nextPort_state s; rw [h]
@[simp] theorem nextPort_fifo : (nextPort s).2.fifo = s.fifo := by obtain ⟨_, _, h⟩ := nextPort_state s; rw [h]
@[simp] theorem nextPort_tickPh : (nextPort s).2.tickPh = s.tickPh := by obtain ⟨_, _, h⟩ := nextPort_state s; rw [h]
@[simp] theorem nextPort_tau : (nextPort s).2.tau = s.tau := by obtain ⟨_, _, h⟩ := nextPort_state s; rw [h]
@[simp] theorem nextPort_accepted : (nextPort s).2.accepted = s.accepted := by
  obtain ⟨_, _, h⟩ := nextPort_state s; rw [h]
@[simp] theorem nextPort_lastStrobe : (nextPort s).2.lastStrobe = s.lastStrobe := by
  obtain ⟨_, _, h⟩ := nextPort_state s; rw [h]
@[simp] theorem nextPort_hasRoom : (nextPort s).2.hasRoom = s.hasRoom := by
  obtain ⟨_, _, h⟩ := nextPort_state s; rw [h]; rfl
@[simp] theorem nextPort_legal : (nextPort s).2.legal = s.legal := by
  obtain ⟨_, _, h⟩ := nextPort_state s; rw [h]; rfl
@[simp] theorem nextPort_inv : (nextPort s).2.Inv ↔ s.Inv := by
  obtain ⟨_, _, h⟩ := nextPort_state s; rw [h]; rfl
@[simp] theorem nextPort_observationInv : (nextPort s).2.ObservationInv ↔ s.ObservationInv := by
  obtain ⟨_, _, h⟩ := nextPort_state s; rw [h]; rfl

end

/-! ### The push -/

/-- The words that an edge accepts (20_memory.md R52). -/
def pushedWords (ready : Bool) (p : PortIn) : List EventWord := if ready && p.evValid then [p.evData] else []

/-- A push appends the accepted words to the FIFO and to the observation, and does nothing else. -/
theorem acceptPush_eq (ready : Bool) (p : PortIn) (s : State) : acceptPush ready p s =
    { s with
      fifo := s.fifo ++ pushedWords ready p
      accepted := s.accepted ++ (pushedWords ready p).map fun w => ⟨s.tau, w⟩ } := by
  unfold acceptPush pushedWords
  split
  · rfl
  · simp

/-- An edge accepts the word on the port if there is room (R52). -/
theorem pushedWords_hasRoom (s : State) (p : PortIn) :
    pushedWords s.hasRoom p = if p.evValid = true ∧ s.fifo.length < 4 then [p.evData] else [] := by
  unfold pushedWords
  congr 1
  rw [Bool.and_eq_true, hasRoom_eq_true, and_comm]

section
variable (ready : Bool) (p : PortIn) (s : State)

@[simp] theorem acceptPush_mode : (acceptPush ready p s).mode = s.mode := by rw [acceptPush_eq]
@[simp] theorem acceptPush_level : (acceptPush ready p s).level = s.level := by rw [acceptPush_eq]
@[simp] theorem acceptPush_flickT : (acceptPush ready p s).flickT = s.flickT := by rw [acceptPush_eq]
@[simp] theorem acceptPush_fifo : (acceptPush ready p s).fifo = s.fifo ++ pushedWords ready p := by rw [acceptPush_eq]
@[simp] theorem acceptPush_tickPh : (acceptPush ready p s).tickPh = s.tickPh := by rw [acceptPush_eq]
@[simp] theorem acceptPush_duty0 : (acceptPush ready p s).duty0 = s.duty0 := by rw [acceptPush_eq]
@[simp] theorem acceptPush_duty1 : (acceptPush ready p s).duty1 = s.duty1 := by rw [acceptPush_eq]
@[simp] theorem acceptPush_tau : (acceptPush ready p s).tau = s.tau := by rw [acceptPush_eq]
@[simp] theorem acceptPush_accepted : (acceptPush ready p s).accepted
    = s.accepted ++ (pushedWords ready p).map fun w => ⟨s.tau, w⟩ := by rw [acceptPush_eq]
@[simp] theorem acceptPush_offers : (acceptPush ready p s).offers = s.offers := by rw [acceptPush_eq]

end

/-! ### The sequencer's share -/

/-- Whether a millisecond action ticks (10_state.md R40). -/
def State.ticks (s : State) : Prop := s.tickPh = 0 ∧ (preTick s).seqBusy = false

/-- Whether the sequencer is busy when the action decides depends on its own registers only. -/
theorem preTick_seqBusy (s : State) :
    (preTick s).seqBusy = (s.seqBusy && (s.seqWait - 1 != 0 || s.restOfScript.any Prim.waits)) :=
  seqAdvance_seqBusy s.advancePhase

@[simp] theorem preTick_clearWe_seqBusy (s : State) : (preTick s.clearWe).seqBusy = (preTick s).seqBusy := by
  rw [preTick_seqBusy, preTick_seqBusy]; rfl

@[simp] theorem preTick_nextPort_seqBusy (s : State) : (preTick (nextPort s).2).seqBusy = (preTick s).seqBusy := by
  obtain ⟨_, _, h⟩ := nextPort_state s
  rw [h, preTick_seqBusy, preTick_seqBusy]; rfl

/-- The state in which a strobe's action begins ticks when the state before the edge does. -/
theorem ticks_strobe (s : State) : (nextPort s).2.clearWe.ticks ↔ s.ticks := by simp [State.ticks]

theorem preTick_tickPh (s : State) : (preTick s).tickPh.toNat = (s.tickPh.toNat + 1) % 10 := by
  have hph : (preTick s).tickPh = BitVec.ofNat 4 ((s.tickPh.toNat + 1) % 10) := by rw [preTick, seqAdvance_tickPh]; rfl
  rw [hph, BitVec.toNat_ofNat]
  omega

theorem preTick_decisions (s : State) : (preTick s).decisions = s.decisions := by simp [preTick]
theorem preTick_accepted (s : State) : (preTick s).accepted = s.accepted := by simp [preTick]
theorem preTick_offers (s : State) : (preTick s).offers = s.offers := by simp [preTick]

/-! ### The millisecond action -/

/-- `u` is the state of a millisecond action from `s` before the action is observed: that of the tick after the sequencer's share,
or, without a tick, that of the share. -/
def Decided (s : State) (u : State) : Prop :=
  (s.ticks ∧ OutputAction (preTick s) u ∧ TickFrame (preTick s).dropOldest u
      ∧ u = applyEvent (nextEvent s) (preTick s).dropOldest)
    ∨ (¬ s.ticks ∧ u = preTick s)

/-- A millisecond action ticks, or it ends with the sequencer's share (10_state.md R40). -/
theorem afterAction_cases (s : State) : ∃ u, Decided s u ∧ afterAction s = u.endAction := by
  have hboundary : s.atBoundary = true ↔ s.tickPh = 0 := beq_iff_eq
  have hev : nextEvent (preTick s) = nextEvent s := by rw [nextEvent, nextEvent, preTick_fifo]
  unfold afterAction
  split
  · rename_i h
    rw [Bool.and_eq_true, hboundary, Bool.not_eq_true'] at h
    refine ⟨_, .inl ⟨h, ?_, ?_, ?_⟩, rfl⟩
    · exact (applyEvent_output _ _).of_dropOldest
    · exact applyEvent_frame _ _
    · rw [hev]
  · rename_i h
    rw [Bool.and_eq_true, hboundary, Bool.not_eq_true'] at h
    exact ⟨_, .inr ⟨h, rfl⟩, rfl⟩

/-- An action that does not tick does the sequencer's share only. -/
theorem afterAction_of_not_ticks {s : State} (h : ¬ s.ticks) : afterAction s = (preTick s).endAction := by
  obtain ⟨u, ⟨ht, _⟩ | ⟨_, rfl⟩, e⟩ := afterAction_cases s
  · exact absurd ht h
  · exact e

/-- An action that ticks applies the oldest word's event once that word is taken. -/
theorem afterAction_of_ticks {s : State} (h : s.ticks) :
    afterAction s = (applyEvent (nextEvent s) (preTick s).dropOldest).endAction := by
  obtain ⟨u, ⟨_, _, _, rfl⟩ | ⟨hn, _⟩, e⟩ := afterAction_cases s
  · exact e
  · exact absurd h hn

/-- What an action decides is outside the phase, the strobe count and what the environment holds. -/
theorem Decided.frame {s u : State} (h : Decided s u) : u.tau = s.tau
    ∧ u.tickPh.toNat = (s.tickPh.toNat + 1) % 10 ∧ u.decisions = s.decisions ∧ u.accepted = s.accepted
    ∧ u.offers = s.offers := by
  have hframe : u.tau = (preTick s).tau ∧ u.tickPh = (preTick s).tickPh ∧ u.decisions = (preTick s).decisions
      ∧ u.accepted = (preTick s).accepted ∧ u.offers = (preTick s).offers := by
    rcases h with ⟨_, _, hf, _⟩ | ⟨_, rfl⟩
    · obtain ⟨_, hph, htau, hdec, hacc, _, hoff, _⟩ := hf
      exact ⟨htau, hph, hdec, hacc, hoff⟩
    · exact ⟨rfl, rfl, rfl, rfl, rfl⟩
  obtain ⟨htau, hph, hdec, hacc, hoff⟩ := hframe
  rw [htau, hph, hdec, hacc, hoff, preTick_tau, preTick_tickPh, preTick_decisions, preTick_accepted, preTick_offers]
  exact ⟨rfl, rfl, rfl, rfl, rfl⟩

@[simp] theorem afterAction_tau (s : State) : (afterAction s).tau = s.tau + 1 := by
  obtain ⟨u, hu, e⟩ := afterAction_cases s
  obtain ⟨htau, _⟩ := hu.frame
  rw [e, State.endAction_tau, htau]

theorem afterAction_tickPh (s : State) : (afterAction s).tickPh.toNat = (s.tickPh.toNat + 1) % 10 := by
  obtain ⟨u, hu, e⟩ := afterAction_cases s
  obtain ⟨_, hph, _⟩ := hu.frame
  rw [e, State.endAction_tickPh, hph]

/-- Each action is observed once, with the mode and level it leaves (00_scope.md R11 (b)). -/
theorem afterAction_decisions (s : State) :
    (afterAction s).decisions = s.decisions ++ [⟨s.tau, (afterAction s).mode, (afterAction s).level⟩] := by
  obtain ⟨u, hu, e⟩ := afterAction_cases s
  obtain ⟨htau, _, hdec, _, _⟩ := hu.frame
  rw [e, State.endAction_decisions, hdec, htau]
  rfl

@[simp] theorem afterAction_accepted (s : State) : (afterAction s).accepted = s.accepted := by
  obtain ⟨u, hu, e⟩ := afterAction_cases s
  obtain ⟨_, _, _, hacc, _⟩ := hu.frame
  rw [e, State.endAction_accepted, hacc]

@[simp] theorem afterAction_offers (s : State) : (afterAction s).offers = s.offers := by
  obtain ⟨u, hu, e⟩ := afterAction_cases s
  obtain ⟨_, _, _, _, hoff⟩ := hu.frame
  rw [e, State.endAction_offers, hoff]

/-- A tick takes the oldest word; an action without one takes none (40_state_machine.md R101). -/
theorem afterAction_fifo_of_ticks {s : State} (h : s.ticks) : (afterAction s).fifo = s.fifo.tail := by
  rw [afterAction_of_ticks h, State.endAction_fifo, (applyEvent_frame _ _).1, State.dropOldest_fifo, preTick_fifo]

theorem afterAction_fifo_of_not_ticks {s : State} (h : ¬ s.ticks) : (afterAction s).fifo = s.fifo := by
  rw [afterAction_of_not_ticks h, State.endAction_fifo, preTick_fifo]

/-- Without a tick, mode, level and flicker index stay. -/
theorem afterAction_keeps {s : State} (h : ¬ s.ticks) :
    (afterAction s).mode = s.mode ∧ (afterAction s).level = s.level ∧ (afterAction s).flickT = s.flickT := by
  rw [afterAction_of_not_ticks h]
  exact ⟨preTick_mode s, preTick_level s, preTick_flickT s⟩

/-- An action leaves the level in 0 to 9 (10_state.md R22). -/
theorem afterAction_level_le {s : State} (h : s.level.toNat ≤ 9) : (afterAction s).level.toNat ≤ 9 := by
  by_cases ht : s.ticks
  · rw [afterAction_of_ticks ht, State.endAction_level, applyEvent_level]
    exact next_level_le (by rwa [State.dropOldest_level, preTick_level]) _ _
  · rwa [(afterAction_keeps ht).2.1]

/-! ### The edges of a step -/

/-- A step at a strobe outside reset (10_state.md R41). -/
theorem step_at_strobe {s t : State} (h : step s = .next t) (hrst : (nextPort s).1.rst = false)
    (hstrobe : (nextPort s).1.msStrobe = true) :
    s.legal = true ∧ s.lastStrobe = false
      ∧ t = acceptPush s.hasRoom (nextPort s).1 ((afterAction (nextPort s).2.clearWe).noteStrobe true) := by
  rcases step_cases h with ⟨h1, _⟩ | ⟨_, hlegal, _, hlast, e⟩ | ⟨_, _, h1, _⟩
  · simp [hrst] at h1
  · rw [nextPort_hasRoom] at e
    rw [nextPort_legal] at hlegal
    rw [nextPort_lastStrobe] at hlast
    exact ⟨hlegal, hlast, e⟩
  · simp [hstrobe] at h1

/-- A step at an edge without reset and strobe (R41). -/
theorem step_off_strobe {s t : State} (h : step s = .next t) (hrst : (nextPort s).1.rst = false)
    (hstrobe : (nextPort s).1.msStrobe = false) :
    s.legal = true ∧ t = acceptPush s.hasRoom (nextPort s).1 ((nextPort s).2.clearWe.noteStrobe false) := by
  rcases step_cases h with ⟨h1, _⟩ | ⟨_, _, h1, _⟩ | ⟨_, hlegal, _, e⟩
  · simp [hrst] at h1
  · simp [hstrobe] at h1
  · rw [nextPort_hasRoom] at e
    rw [nextPort_legal] at hlegal
    exact ⟨hlegal, e⟩

/-- A step at a strobe, forwards: it is the millisecond action and then the push (R41). -/
theorem step_eq_of_strobe {s e : State} {p : PortIn} (hport : nextPort s = (p, e)) (hrst : p.rst = false)
    (hstrobe : p.msStrobe = true) (hlast : s.lastStrobe = false) (hlegal : s.legal = true) :
    step s = mapNext (fun t => acceptPush s.hasRoom p (t.noteStrobe true)) (msAction e.clearWe) := by
  have he : (nextPort s).2 = e := by rw [hport]
  have hp : (nextPort s).1 = p := by rw [hport]
  have hlegal' : e.legal = true := by rw [← he, nextPort_legal, hlegal]
  have hlast' : e.lastStrobe = false := by rw [← he, nextPort_lastStrobe, hlast]
  have hroom : e.hasRoom = s.hasRoom := by rw [← he, nextPort_hasRoom]
  rw [step, he, hp, ← hroom]
  simp [clockEdge, hrst, hstrobe, hlegal', hlast', State.evReady]

/-- Settles O18: the commands by the transition function, a step by its kind of edge. -/
theorem levelIsWrittenOnlyByWeakAndStrong : Obligations.LevelIsWrittenOnlyByWeakAndStrong := by
  refine ⟨fun i s t h hweak hstrong => exec_keeps_level h hweak hstrong, fun s t h => ?_, fun s t h => ?_⟩
  · rw [emptyTick_eq_exec_reserved] at h
    exact exec_keeps_level h Instr.noConfusion Instr.noConfusion
  · cases hrst : (nextPort s).1.rst with
    | true =>
      rcases step_cases h with ⟨_, rfl⟩ | ⟨h1, _⟩ | ⟨h1, _⟩
      · exact (by decide : Config.resetLevel.toNat ≤ 9)
      · simp [hrst] at h1
      · simp [hrst] at h1
    | false =>
      cases hstrobe : (nextPort s).1.msStrobe with
      | true =>
        obtain ⟨hlegal, _, rfl⟩ := step_at_strobe h hrst hstrobe
        rw [acceptPush_level]
        exact afterAction_level_le (by simpa using (legal_iff.1 hlegal).1)
      | false =>
        obtain ⟨hlegal, rfl⟩ := step_off_strobe h hrst hstrobe
        simpa using (legal_iff.1 hlegal).1

/-! ### A step runs the decoded word -/

theorem decide_room (s : State) : decide (s.fifo.length < 4) = s.hasRoom := rfl

/-- Tick of a waiting word, and of an empty FIFO (40_state_machine.md R101). -/
theorem tick_cons {s : State} {w : EventWord} {ws : List EventWord} (h : s.fifo = w :: ws) :
    tick s = exec (decode w) { s with fifo := ws } := by
  have hdrop : s.dropOldest = { s with fifo := ws } := by rw [State.dropOldest, h]; rfl
  rw [tick, take_cons h, ← hdrop]

theorem tick_nil {s : State} (h : s.fifo = []) : tick s = emptyTick s := by rw [tick, take_nil h]

/-- At a boundary with the sequencer idle, the action is the tick of the state with the phase at 1 (10_state.md R40). -/
theorem msAction_idle_boundary {s : State} (hph : s.tickPh = 0) (hidle : s.seqBusy = false) :
    msAction s = mapNext State.endAction (tick { s with tickPh := 1 }) := by
  have hpre : preTick s = { s with tickPh := 1 } := by
    rw [preTick, seqAdvance_idle (by simpa using hidle), State.advancePhase, hph]; rfl
  have hboundary : s.atBoundary = true := beq_iff_eq.2 hph
  rw [msAction, hpre, hboundary]
  simp [hidle]

theorem mapNext_mapNext (f g : State → State) (o : StepOutcome) :
    mapNext f (mapNext g o) = mapNext (fun s => f (g s)) o := by cases o <;> rfl

theorem nextPort_snd_state {s e : State} {p : PortIn} (hport : nextPort s = (p, e)) :
    ∃ ins offs, e = { s with inputs := ins, offers := offs } := by
  have h := nextPort_state s
  rwa [hport] at h

/-- At an idle boundary, a step is the tick and the push. -/
theorem step_eq_tick {s e : State} {p : PortIn} (hport : nextPort s = (p, e)) (hrst : p.rst = false)
    (hstrobe : p.msStrobe = true) (hlast : s.lastStrobe = false) (hlegal : s.legal = true) (hph : s.tickPh = 0)
    (hidle : s.seqBusy = false) :
    step s = mapNext (fun t => acceptPush s.hasRoom p (t.endAction.noteStrobe true))
      (tick { e with tickPh := 1, dutyWe0 := false, dutyWe1 := false }) := by
  obtain ⟨ins, offs, he⟩ := nextPort_snd_state hport
  rw [step_eq_of_strobe hport hrst hstrobe hlast hlegal, msAction_idle_boundary (by simp [he, hph]) (by simp [he, hidle]),
    mapNext_mapNext]
  rfl

/-- Settles O6: the tick takes the waiting word. -/
theorem strobeRunsTheDecodedWord : Obligations.StrobeRunsTheDecodedWord := by
  intro s e p w ws i hport hrst hstrobe hlast hlegal hph hidle hfifo hdec _
  obtain ⟨ins, offs, he⟩ := nextPort_snd_state hport
  refine ⟨⟨ins, offs, he⟩, ?_⟩
  rw [step_eq_tick hport hrst hstrobe hlast hlegal hph hidle, tick_cons (w := w) (ws := ws) (by simp [he, hfifo]), hdec]
  rfl

/-- Settles O7: the tick finds no word. -/
theorem strobeRunsTheEmptyTick : Obligations.StrobeRunsTheEmptyTick := by
  intro s e p hport hrst hstrobe hlast hlegal hph hidle hfifo
  obtain ⟨ins, offs, he⟩ := nextPort_snd_state hport
  have hroom : s.hasRoom = true := hasRoom_eq_true.2 (by simp [hfifo])
  rw [step_eq_tick hport hrst hstrobe hlast hlegal hph hidle, tick_nil (by simp [he, hfifo]), hroom]

/-- The sequencer's share, by its three cases (10_state.md R40). -/
theorem preTick_eq (s : State) : preTick s =
    if s.seqBusy = false then s.advancePhase
    else if s.seqWait = 1 then seqRun (s.advancePhase.setWait 0)
    else s.advancePhase.setWait (s.seqWait - 1) := by
  unfold preTick
  cases hb : s.seqBusy with
  | false => rw [seqAdvance_idle (by simpa using hb), if_pos rfl]
  | true =>
    have hzero : s.seqWait - 1 = 0 ↔ s.seqWait = 1 := sub_eq_zero
    by_cases hw : s.seqWait = 1
    · rw [if_neg Bool.noConfusion, if_pos hw, seqAdvance_runs (by simpa using hb) (by simpa using hw)]
    · rw [if_neg Bool.noConfusion, if_neg hw, seqAdvance, if_pos (by simpa using hb), State.advancePhase_seqWait,
        if_neg (mt hzero.1 hw)]

theorem msAction_eq_ite (s : State) : msAction s = mapNext State.endAction
    (if s.tickPh = 0 ∧ (preTick s).seqBusy = false then tick (preTick s) else .next (preTick s)) := by
  unfold msAction State.atBoundary
  simp only [Bool.and_eq_true, beq_iff_eq, Bool.not_eq_true']

/-- Settles O8: the parts of the millisecond action, each by its equation. -/
theorem strobeRunsTheMillisecondAction : Obligations.StrobeRunsTheMillisecondAction := by
  intro s e a q p hport hrst hstrobe hlast hlegal ha hq
  obtain ⟨ins, offs, he⟩ := nextPort_snd_state hport
  have hq' : a.advancePhase = q := by rw [hq, ha, he]; rfl
  have hclear : e.clearWe = a := ha.symm
  refine ⟨⟨ins, offs, he⟩, ?_, ?_, ?_, fun t => tick_nil, fun t w ws => tick_cons⟩
  · rw [step_eq_of_strobe hport hrst hstrobe hlast hlegal, hclear, decide_room]
  · rw [preTick_eq, hq', ha, he]
    rfl
  · rw [msAction_eq_ite]
    simp [ha, he]

/-! ### The FIFO -/

/-- Settles O39: by the two equations of the take. -/
theorem takeAnswersTheOldestWord : Obligations.TakeAnswersTheOldestWord := by
  refine fun s => ⟨take_nil, fun w ws h => ?_⟩
  rw [take_cons h, State.dropOldest, h]
  rfl

theorem take_append_tail {α : Type} (l : List α) : l.take 1 ++ l.tail = l := by cases l <;> simp

/-- Settles O40: what the action takes is at the front, what the port accepts at the back. -/
theorem fifoKeepsEveryWordInOrder : Obligations.FifoKeepsEveryWordInOrder := by
  intro s t hrst h
  refine ⟨_, pushedWords s.hasRoom (nextPort s).1, ?_, rfl, pushedWords_hasRoom s _, ?_⟩
  · cases hstrobe : (nextPort s).1.msStrobe with
    | true =>
      obtain ⟨_, _, rfl⟩ := step_at_strobe h hrst hstrobe
      by_cases ht : s.ticks
      · have hport : (nextPort s).2.clearWe.ticks := (ticks_strobe s).2 ht
        rw [if_pos ⟨rfl, ht⟩, acceptPush_fifo, State.noteStrobe_fifo, afterAction_fifo_of_ticks hport]
        simp [← List.append_assoc, take_append_tail]
      · have hport : ¬ (nextPort s).2.clearWe.ticks := fun hp => ht ((ticks_strobe s).1 hp)
        rw [if_neg fun hc => ht hc.2, acceptPush_fifo, State.noteStrobe_fifo, afterAction_fifo_of_not_ticks hport]
        simp
    | false =>
      obtain ⟨_, rfl⟩ := step_off_strobe h hrst hstrobe
      simp
  · cases hstrobe : (nextPort s).1.msStrobe with
    | true =>
      obtain ⟨_, _, rfl⟩ := step_at_strobe h hrst hstrobe
      simp [Function.comp_def]
    | false =>
      obtain ⟨_, rfl⟩ := step_off_strobe h hrst hstrobe
      simp [Function.comp_def]

/-- Settles O41: a full FIFO makes the port not ready, whatever the action takes. -/
theorem fullFifoAcceptsNothing : Obligations.FullFifoAcceptsNothing := by
  intro s t hfull hrst h
  have hroom : s.hasRoom = false := hasRoom_eq_false.2 hfull.ge
  cases hstrobe : (nextPort s).1.msStrobe with
  | true =>
    obtain ⟨_, _, rfl⟩ := step_at_strobe h hrst hstrobe
    rw [hroom, acceptPush_not_ready]
    refine ⟨by simp, ?_⟩
    by_cases ht : (nextPort s).2.clearWe.ticks
    · exact .inr (by simp [afterAction_fifo_of_ticks ht])
    · exact .inl (by simp [afterAction_fifo_of_not_ticks ht])
  | false =>
    obtain ⟨_, rfl⟩ := step_off_strobe h hrst hstrobe
    rw [hroom, acceptPush_not_ready]
    exact ⟨by simp, .inl (by simp)⟩

/-- Settles O42: the word goes to the back, with the strobe count as the edge leaves it. -/
theorem offeredWordIsAcceptedWhenReady : Obligations.OfferedWordIsAcceptedWhenReady := by
  intro s t hrst hvalid hroom h
  have hpushed : pushedWords s.hasRoom (nextPort s).1 = [(nextPort s).1.evData] := by
    rw [pushedWords_hasRoom, if_pos ⟨hvalid, hroom⟩]
  cases hstrobe : (nextPort s).1.msStrobe with
  | true =>
    obtain ⟨_, _, rfl⟩ := step_at_strobe h hrst hstrobe
    simp [hpushed]
  | false =>
    obtain ⟨_, rfl⟩ := step_off_strobe h hrst hstrobe
    simp [hpushed]

/-! ### Outputs -/

/-- Settles O43: two channel writes in a row, or one. -/
theorem writeRecordsEveryChannel : Obligations.WriteRecordsEveryChannel := by
  refine fun s v => ⟨?_, rfl, rfl⟩
  show (s.writeChannel .ch0 v).writeChannel .ch1 v = _
  simp [State.writeChannel]

/-- Bit `ch` of the port is channel `ch`'s strobe (10_state.md R36). -/
theorem dutyWe_bits (b1 b0 : Bool) : (BitVec.ofBool b1 ++ BitVec.ofBool b0).getLsbD 0 = b0
    ∧ (BitVec.ofBool b1 ++ BitVec.ofBool b0).getLsbD 1 = b1 := by cases b1 <;> cases b0 <;> decide

/-- Settles O46: each port by its register; the mode's code by cases, the count by its three bits. -/
theorem statusOutputs : Obligations.StatusOutputs := by
  intro s rst hlen
  have hcount : s.fifoCount.toNat = s.fifo.length := by rw [State.fifoCount, BitVec.toNat_ofNat]; omega
  obtain ⟨hwe0, hwe1⟩ := dutyWe_bits s.dutyWe1 s.dutyWe0
  refine ⟨rfl, rfl, hwe0, hwe1, ?_, rfl, rfl, hcount, ?_, Iff.rfl, beq_iff_eq, beq_iff_eq⟩
  · show s.mode.code.toNat = _
    cases s.mode <;> rfl
  · show (!rst && s.hasRoom) = true ↔ _
    rw [Bool.and_eq_true, hasRoom_eq_true, Bool.not_eq_true']

/-! ### Time -/

/-- Settles O47: only an action counts. -/
theorem phaseCountsStrobesModuloTen : Obligations.PhaseCountsStrobesModuloTen := by
  intro s t hrst h
  split
  · rename_i hstrobe
    obtain ⟨_, _, rfl⟩ := step_at_strobe h hrst hstrobe
    simp [afterAction_tickPh]
  · rename_i hstrobe
    obtain ⟨_, rfl⟩ := step_off_strobe h hrst (Bool.eq_false_iff.2 hstrobe)
    simp

/-- Settles O48: off a boundary no action ticks. -/
theorem ticksOnlyAtBoundaries : Obligations.TicksOnlyAtBoundaries := by
  intro s t hrst hph h
  cases hstrobe : (nextPort s).1.msStrobe with
  | true =>
    obtain ⟨_, _, rfl⟩ := step_at_strobe h hrst hstrobe
    have ht : ¬ (nextPort s).2.clearWe.ticks := fun hp => hph ((ticks_strobe s).1 hp).1
    obtain ⟨hmode, hlevel, hflick⟩ := afterAction_keeps ht
    simp [afterAction_fifo_of_not_ticks ht, hmode, hlevel, hflick]
  | false =>
    obtain ⟨_, rfl⟩ := step_off_strobe h hrst hstrobe
    simp

/-- Settles O49: the push is all that such an edge does. -/
theorem edgeWithoutStrobeOnlyPushes : Obligations.EdgeWithoutStrobeOnlyPushes := by
  intro s t hrst hstrobe h
  obtain ⟨_, rfl⟩ := step_off_strobe h hrst hstrobe
  refine ⟨pushedWords s.hasRoom (nextPort s).1, ?_, pushedWords_hasRoom s _⟩
  obtain ⟨ins, offs, he⟩ := nextPort_state s
  rw [he, acceptPush_eq]
  rfl

/-! ### Reset -/

theorem step_of_reset {s : State} (h : (nextPort s).1.rst = true) : step s = .next (nextPort s).2.resetEdge := by
  rw [step, clockEdge, if_pos h]

theorem nextPort_cons {s : State} {p : PortIn} {rest : List PortIn} (h : s.inputs = p :: rest) :
    nextPort s = (p, { s with inputs := rest }) := by
  rw [nextPort, h, State.nextInput, h]
  rfl

/-- Settles O51: a reset edge reads nothing of the state but what the environment holds. -/
theorem resetEdgeRestoresTheResetState : Obligations.ResetEdgeRestoresTheResetState := by
  intro s p rest hin hrst
  have hport := nextPort_cons hin
  rw [step_of_reset (by rw [hport]; exact hrst), hport]
  rfl

/-- Settles O52: the first tick finds no word in PowerOff, which nothing but a press of Power leaves. -/
theorem firstStrobeAfterReset : Obligations.FirstStrobeAfterReset := by
  intro p rest hrst hstrobe hvalid
  have hpush : ∀ (ready : Bool) (s : State), acceptPush ready p s = s := by simp [acceptPush, hvalid]
  have hport : nextPort { State.reset with inputs := p :: rest } = (p, { State.reset with inputs := rest }) :=
    nextPort_cons rfl
  have h := strobeRunsTheEmptyTick _ _ p hport hrst hstrobe rfl (by rfl) rfl rfl rfl
  rw [emptyTick_eq, applyEvent_powerOff rfl Event.noConfusion, mapNext_next, hpush] at h
  exact ⟨_, h, rfl, rfl, rfl, rfl, rfl, rfl, rfl, rfl, rfl, rfl, rfl, rfl, rfl, rfl, rfl⟩

/-! ### What a step can answer -/

/-- Settles O57: the invariant gives a legal state, so that only the strobe contract is left to ask. -/
theorem stepCompletes : Obligations.StepCompletes := by
  intro s hinv hallowed
  have hlegal : (nextPort s).2.legal = true := by rw [nextPort_legal]; exact hinv.1
  unfold step
  rcases clockEdge_cases (nextPort s).1 (nextPort s).2 with ⟨_, e⟩ | ⟨_, h, _⟩ | ⟨h0, _, h1, h2, _⟩ | ⟨_, _, _, _, e⟩ | ⟨_, _, _, e⟩
  · exact ⟨_, e⟩
  · simp [hlegal] at h
  · rw [nextPort_lastStrobe] at h2
    simp [State.strobeAllowed, h0, h1, h2] at hallowed
  · exact ⟨_, e⟩
  · exact ⟨_, e⟩

/-- Settles O58: the five cases of an edge, two of which refuse. -/
theorem refusalsAreTwo : Obligations.RefusalsAreTwo := by
  intro s
  have hlegal := nextPort_legal s
  have hlast := nextPort_lastStrobe s
  unfold step
  rcases clockEdge_cases (nextPort s).1 (nextPort s).2
    with ⟨h0, e⟩ | ⟨h0, h1, e⟩ | ⟨h0, h1, h2, h3, e⟩ | ⟨h0, h1, h2, h3, e⟩ | ⟨h0, h1, h2, e⟩
  · simp [e, h0]
  · simp [e, h0, hlegal ▸ h1]
  · simp [e, h0, hlegal ▸ h1, h2, hlast ▸ h3]
  · simp [e, h0, hlegal ▸ h1, h2, hlast ▸ h3]
  · simp [e, h0, hlegal ▸ h1, h2]

/-! ### The environment -/

theorem quietPort_strobeAllowed {s : State} (h : s.inputs = []) : s.strobeAllowed := by
  have hport : (nextPort s).1 = s.quietPort := by rw [nextPort, h]
  cases hlast : s.lastStrobe with
  | true => exact .inr (.inl (by simp [hport, State.quietPort, hlast]))
  | false => exact .inr (.inr hlast)

/-- With an offer due, the quiet environment holds its word on the port, gives its strobe only if the port is not ready, and is
done with the offer if it is. -/
theorem nextPort_due {s : State} {o : Offer} {rest : List Offer} (hin : s.inputs = []) (hoff : s.offers = o :: rest)
    (hdue : o.notBefore ≤ s.tau) :
    nextPort s = (⟨false, !s.lastStrobe && !s.hasRoom, true, o.word⟩, if s.hasRoom then s.nextOffer else s) := by
  have hoffer : s.dueOffer = some o.word := by rw [State.dueOffer, hoff]; exact if_pos hdue
  simp only [nextPort, hin, State.quietPort, hoffer, Option.isSome_some, Option.getD_some, Bool.true_and]

/-- Settles O59: with room the edge is no strobe and accepts the word; without room it accepts nothing. -/
theorem quietEnvironmentKeepsItsContract : Obligations.QuietEnvironmentKeepsItsContract := by
  refine fun s hin => ⟨quietPort_strobeAllowed hin, fun o rest t hoff hdue h => ?_⟩
  have hport := nextPort_due hin hoff hdue
  have hrst : (nextPort s).1.rst = false := by rw [hport]
  refine ⟨by rw [hport], by rw [hport], ?_⟩
  cases hroom : s.hasRoom with
  | true =>
    rw [if_pos (hasRoom_eq_true.1 hroom)]
    obtain ⟨_, rfl⟩ := step_off_strobe h hrst (by simp [hport, hroom])
    simp [hport, hroom, hoff, pushedWords]
  | false =>
    rw [if_neg (by have := hasRoom_eq_false.1 hroom; omega)]
    cases hstrobe : (nextPort s).1.msStrobe with
    | true =>
      obtain ⟨_, _, rfl⟩ := step_at_strobe h hrst hstrobe
      simp [hport, hroom]
    | false =>
      obtain ⟨_, rfl⟩ := step_off_strobe h hrst hstrobe
      simp [hport, hroom]

/-! ### The Proximity Monitor -/

theorem magnitude_toNat {raw : Prox} (h : raw.toNat ≤ Config.maxRaw.toNat) :
    (magnitude raw).toNat = Config.maxRaw.toNat - raw.toNat := by
  rw [magnitude, if_pos (BitVec.le_def.2 h), BitVec.toNat_sub_of_le (BitVec.le_def.2 h)]

/-- `|m - last_changed| > 10`, with the distance over the naturals (60_exceptions.md R218). -/
theorem movedBeyondThreshold_iff (m last : Prox) :
    movedBeyondThreshold m last = true ↔ 10 < (m.toNat - last.toNat) + (last.toNat - m.toNat) := by
  have hcfg : Config.changeThreshold = 10 := rfl
  rw [movedBeyondThreshold, decide_eq_true_iff, hcfg]
  omega

/-- Settles O60: a reading is a magnitude and one test. -/
theorem proximityPollPublishes : Obligations.ProximityPollPublishes := by
  refine ⟨fun last => rfl, fun raw last hraw => ⟨magnitude raw, magnitude_toNat hraw, fun hfar => ?_, fun hnear => ?_⟩⟩
  · have hmoved : movedBeyondThreshold (magnitude raw) last = true := (movedBeyondThreshold_iff _ _).2 hfar
    simp [proximityPoll, hmoved, assemble]
  · have hmoved : movedBeyondThreshold (magnitude raw) last = false := by
      rw [← Bool.not_eq_true, movedBeyondThreshold_iff]
      omega
    simp [proximityPoll, hmoved, assemble]

end Sys2Proof.Machine
end

section
/-! Timelines, and the sequencer playing them (41_sequencer.md R143 to R154, 10_state.md R40). One millisecond of a playing
sequencer is said once (`share_goesOn`, `share_ends`): the writes of this strobe come off the front of what is to come, and
one millisecond comes off what remains. A run of `k` milliseconds is an induction on that. -/

namespace Sys2Proof.Machine

/-! ### Targets and durations -/

/-- Settles O24: each duration in terms of the target (R144), and the target in terms of the level (10_state.md R23). -/
theorem targetAndDurationsOfEachLevel : Obligations.TargetAndDurationsOfEachLevel := by
  intro l hl
  have hT : (target l).toNat = (l.toNat + 1) * 10 := target_toNat hl
  have hon := duration_on (target l)
  have hoff : scriptDuration (script .off (target l)) = 110 + 100 * l.toNat := by rw [duration_off]; omega
  have hstby : scriptDuration (script .stby (target l)) = 720 + 200 * l.toNat := by rw [duration_stby]; omega
  have hshake : scriptDuration (script .shake (target l)) = 610 + 100 * l.toNat := by rw [duration_shake]; omega
  have hlevel : scriptDuration (script .level (target l)) = 710 - 50 * l.toNat := by
    rw [duration_level (by omega)]; omega
  refine ⟨hT, ?_, hoff, hstby, hon, hshake, hlevel, fun anim => ?_⟩
  · rw [toNat_dutyUs (target_le hl)]; omega
  · cases anim <;> omega

/-- An animation started with the target of a level lasts whole ticks (70_reset_and_hazards.md R252). -/
theorem ten_dvd_duration {l : Level} (hl : l.toNat ≤ 9) (anim : Anim) : 10 ∣ scriptDuration (script anim (target l)) := by
  obtain ⟨_, _, _, _, _, _, _, h⟩ := targetAndDurationsOfEachLevel l hl
  exact (h anim).1

/-! ### The five timelines -/

/-- The values of a ramp from 0 up. -/
theorem rampValue_up (T : Pct) (k : Nat) : rampValue 0 T k = BitVec.ofNat 7 k := by
  rw [rampValue, if_pos (BitVec.le_def.2 (Nat.zero_le _))]; simp

/-- The values of a ramp down to 0. -/
theorem rampValue_down (T : Pct) {k : Nat} (hk : k ≤ T.toNat) : rampValue T 0 k = BitVec.ofNat 7 (T.toNat - k) := by
  unfold rampValue
  split
  · rename_i h
    have hT : T.toNat = 0 := by simpa [BitVec.le_def] using h
    rw [hT, show k = 0 by omega]
  · rfl

theorem rampValue_flash {k : Nat} : rampValue Config.flashLo Config.flashHi k = BitVec.ofNat 7 (50 + k) :=
  if_pos (by decide)

/-- The values of a ramp from 100 to a target. -/
theorem rampValue_flashHi {T : Pct} {k : Nat} (hk : k ≤ 100 - T.toNat) :
    rampValue Config.flashHi T k = BitVec.ofNat 7 (100 - k) := by
  have hhi : Config.flashHi.toNat = 100 := rfl
  unfold rampValue
  split
  · rename_i h
    rw [BitVec.le_def, hhi] at h
    rw [show k = 0 by omega, hhi]
  · rw [hhi]

/-- The writes of a ramp with given values to both channels (R143). -/
theorem ramp_both_writes {a b : Pct} {f : Nat → Pct} (start : Nat) (step : Millis)
    (hf : ∀ k ≤ distance a b, rampValue a b k = f k) :
    (Prim.ramp both a b step).writes start = (List.range (distance a b + 1)).flatMap fun k =>
      [⟨start + step.toNat * k, .ch0, f k⟩, ⟨start + step.toNat * k, .ch1, f k⟩] := by
  refine List.flatMap_congr fun k hk => ?_
  have hk' := List.mem_range.1 hk
  rw [hf k (by omega), Nat.mul_comm]
  rfl

/-- The writes of a ramp with given values to channel 0. -/
theorem ramp_ch0_writes {a b : Pct} {f : Nat → Pct} (start : Nat) (step : Millis)
    (hf : ∀ k ≤ distance a b, rampValue a b k = f k) :
    (Prim.ramp [.ch0] a b step).writes start = (List.range (distance a b + 1)).map fun k =>
      ⟨start + step.toNat * k, .ch0, f k⟩ := by
  rw [List.map_eq_flatMap]
  refine List.flatMap_congr fun k hk => ?_
  have hk' := List.mem_range.1 hk
  rw [hf k (by omega), Nat.mul_comm]
  rfl

theorem pause_writes (d : Millis) (start : Nat) : (Prim.pause d).writes start = [] := rfl

theorem ramp_up_writes (T : Pct) (start : Nat) (step : Millis) :
    (Prim.ramp both 0 T step).writes start = (List.range (T.toNat + 1)).flatMap fun k =>
      [⟨start + step.toNat * k, .ch0, BitVec.ofNat 7 k⟩, ⟨start + step.toNat * k, .ch1, BitVec.ofNat 7 k⟩] := by
  rw [ramp_both_writes start step fun k _ => rampValue_up T k, distance_zero_left]

theorem ramp_down_writes (T : Pct) (start : Nat) (step : Millis) :
    (Prim.ramp both T 0 step).writes start = (List.range (T.toNat + 1)).flatMap fun k =>
      [⟨start + step.toNat * k, .ch0, BitVec.ofNat 7 (T.toNat - k)⟩,
        ⟨start + step.toNat * k, .ch1, BitVec.ofNat 7 (T.toNat - k)⟩] := by
  rw [ramp_both_writes start step fun k hk => rampValue_down T (by rwa [distance_zero_right] at hk), distance_zero_right]

theorem timeline_off (T : Pct) (start : Nat) : timeline start (script .off T) =
    ((List.range (T.toNat + 1)).flatMap fun k =>
      [⟨start + 10 * k, .ch0, BitVec.ofNat 7 (T.toNat - k)⟩, ⟨start + 10 * k, .ch1, BitVec.ofNat 7 (T.toNat - k)⟩])
    ++ [⟨start + 10 * (T.toNat + 1), .ch0, 0⟩, ⟨start + 10 * (T.toNat + 1), .ch1, 0⟩] := by
  have hstep : Config.offStepMs.toNat = 10 := rfl
  simp only [script, timeline, ramp_down_writes, Prim.duration, distance_zero_right, hstep, Nat.mul_comm (T.toNat + 1)]
  rfl

theorem timeline_stby (T : Pct) (start : Nat) : timeline start (script .stby T) =
    ((List.range (T.toNat + 1)).flatMap fun k =>
      [⟨start + 10 * k, .ch0, BitVec.ofNat 7 k⟩, ⟨start + 10 * k, .ch1, BitVec.ofNat 7 k⟩])
    ++ ((List.range (T.toNat + 1)).flatMap fun k =>
      [⟨start + 10 * (T.toNat + 1) + 10 * k, .ch0, BitVec.ofNat 7 (T.toNat - k)⟩,
        ⟨start + 10 * (T.toNat + 1) + 10 * k, .ch1, BitVec.ofNat 7 (T.toNat - k)⟩]) := by
  have hstep : Config.stbyStepMs.toNat = 10 := rfl
  simp only [script, timeline, ramp_up_writes, ramp_down_writes, Prim.duration, distance_zero_left, hstep,
    Nat.mul_comm (T.toNat + 1), pause_writes, List.append_nil]

theorem timeline_shake (T : Pct) (start : Nat) : timeline start (script .shake T) =
    ((List.range (T.toNat + 1)).flatMap fun k =>
      [⟨start + 5 * k, .ch0, BitVec.ofNat 7 k⟩, ⟨start + 5 * k, .ch1, BitVec.ofNat 7 k⟩])
    ++ ((List.range (T.toNat + 1)).flatMap fun k =>
      [⟨start + 5 * (T.toNat + 1) + 5 * k, .ch0, BitVec.ofNat 7 k⟩,
        ⟨start + 5 * (T.toNat + 1) + 5 * k, .ch1, BitVec.ofNat 7 k⟩]) := by
  have hstep : Config.shakeStepMs.toNat = 5 := rfl
  simp only [script, timeline, ramp_up_writes, Prim.duration, distance_zero_left, hstep,
    Nat.mul_comm (T.toNat + 1), pause_writes, List.append_nil]

theorem timeline_level {T : Pct} (hT : T.toNat ≤ 100) (start : Nat) : timeline start (script .level T) =
    ⟨start, .ch1, T⟩
      :: ((List.range 51).map fun k => ⟨start + 5 * k, .ch0, BitVec.ofNat 7 (50 + k)⟩)
      ++ ((List.range (101 - T.toNat)).map fun j => ⟨start + 255 + 5 * j, .ch0, BitVec.ofNat 7 (100 - j)⟩) := by
  have hstep : Config.lvlStepMs.toNat = 5 := rfl
  have hfall := distance_flashHi hT
  rw [show 101 - T.toNat = distance Config.flashHi T + 1 by omega]
  simp only [script, timeline, Prim.duration, distance_flash, hstep, ramp_ch0_writes _ _ fun _ _ => rampValue_flash,
    ramp_ch0_writes _ _ fun _ hk => rampValue_flashHi (hfall ▸ hk), List.append_nil]
  rfl

/-- Settles O25: the timelines, primitive by primitive. -/
theorem animationTimelines : Obligations.AnimationTimelines :=
  fun T start hT => ⟨timeline_off T start, timeline_stby T start, rfl, timeline_shake T start, timeline_level hT start⟩

/-! ### One millisecond of a playing sequencer -/

theorem playing_iff {s : State} :
    s.playing = true ↔ s.seqBusy = true ∧ 1 ≤ s.seqWait.toNat ∧ s.positionOk = true := by
  simp [State.playing, BitVec.le_def, and_assoc]

theorem remaining_busy {s : State} (h : s.seqBusy = true) : s.remaining = s.seqWait.toNat + scriptDuration s.todo := by
  rw [State.remaining, if_pos h]

/-- While the wait is not over, the share only counts. -/
theorem preTick_waits {s : State} (hb : s.seqBusy = true) (hw : 2 ≤ s.seqWait.toNat) :
    preTick s = s.advancePhase.setWait (s.seqWait - 1) := seqAdvance_waits (s := s.advancePhase) hb hw

theorem toNat_wait_sub_one {w : Millis} (h : 1 ≤ w.toNat) : (w - 1).toNat = w.toNat - 1 := by
  have hone : (1 : Millis) ≤ w := BitVec.le_def.2 h
  rw [BitVec.toNat_sub_of_le hone]; rfl

/-- At the end of the wait, the share is one run of the sequencer. -/
theorem preTick_runOf {s : State} (hb : s.seqBusy = true) (hw : s.seqWait = 1) (hp : s.positionOk = true) :
    ∃ recs, RunOf (s.advancePhase.setWait 0) (preTick s) recs := by
  rw [preTick_eq, hb, if_neg Bool.noConfusion, if_pos hw]
  exact seqRun_runOf _ hb hp

/-- A share that leaves the sequencer playing makes the writes of this strobe, and one millisecond less remains (R146). -/
theorem share_goesOn {s : State} (hplay : s.playing = true) (hbusy : (preTick s).seqBusy = true) :
    (preTick s).playing = true
      ∧ ((preTick s).seqWait.toNat ≤ s.seqWait.toNat ∨ (preTick s).seqWait.toNat ≤ 500)
      ∧ (preTick s).remaining + 1 = s.remaining
      ∧ WritesApplied (upTo s.tau s.toCome) s (preTick s)
      ∧ s.toCome = upTo s.tau s.toCome ++ (preTick s).endAction.toCome := by
  obtain ⟨hb, hw1, hp⟩ := playing_iff.1 hplay
  by_cases hw : s.seqWait = 1
  · obtain ⟨recs, hrun⟩ := preTick_runOf hb hw hp
    obtain ⟨hlo, hhi, hpos, htl, hdur⟩ := hrun.goesOn hbusy
    have hcome : s.toCome = timeline s.tau s.todo := by rw [State.toCome, hw]; rfl
    have hrecs : recs = upTo s.tau s.toCome := by rw [hcome]; exact hrun.recs_eq
    refine ⟨playing_iff.2 ⟨hbusy, by omega, hpos⟩, .inr hhi, ?_, hrecs ▸ hrun.writes, ?_⟩
    · have hdur' : scriptDuration s.todo = _ := hdur
      have hone : s.seqWait.toNat = 1 := by rw [hw]; rfl
      rw [remaining_busy hbusy, remaining_busy hb, hdur', hone]
      omega
    · rw [← hrecs, toCome_endAction (by omega), hcome, preTick_tau]
      exact htl
  · have hw2 : 2 ≤ s.seqWait.toNat := by
      have hne : s.seqWait.toNat ≠ 1 := fun e => hw (BitVec.eq_of_toNat_eq e)
      omega
    have hpre := preTick_waits hb hw2
    have hwait : (preTick s).seqWait.toNat = s.seqWait.toNat - 1 := by
      rw [hpre]; exact toNat_wait_sub_one hw1
    have htodo : (preTick s).todo = s.todo := by rw [hpre]; rfl
    have hlater : upTo s.tau s.toCome = [] := upTo_none fun r hr => by
      have := timeline_tau_ge _ _ r hr
      omega
    refine ⟨playing_iff.2 ⟨hbusy, by omega, by rw [hpre]; exact hp⟩, .inl (by omega), ?_, ?_, ?_⟩
    · rw [remaining_busy hbusy, remaining_busy hb, htodo, hwait]
      omega
    · rw [hlater, hpre]
      exact .refl s
    · rw [hlater, toCome_endAction (by omega), hwait, htodo, preTick_tau, List.nil_append]
      rfl

/-- A share that ends the animation makes all the writes there were to make, and the last millisecond was this one. -/
theorem share_ends {s : State} (hplay : s.playing = true) (hidle : (preTick s).seqBusy = false) :
    s.seqWait = 1 ∧ (preTick s).seqWait = 0 ∧ s.remaining = 1 ∧ (∀ r ∈ s.toCome, r.tau = s.tau)
      ∧ WritesApplied s.toCome s (preTick s) := by
  obtain ⟨hb, hw1, hp⟩ := playing_iff.1 hplay
  have hw : s.seqWait = 1 := by
    by_contra hne
    have hw2 : 2 ≤ s.seqWait.toNat := by
      have hne' : s.seqWait.toNat ≠ 1 := fun e => hne (BitVec.eq_of_toNat_eq e)
      omega
    rw [preTick_waits hb hw2, State.setWait_seqBusy, State.advancePhase_seqBusy, hb] at hidle
    exact absurd hidle Bool.noConfusion
  obtain ⟨recs, hrun⟩ := preTick_runOf hb hw hp
  obtain ⟨hrecs, hdur, hwait⟩ := hrun.ends hidle
  have hcome : s.toCome = recs := by rw [hrecs, State.toCome, hw]; rfl
  have hdur' : scriptDuration s.todo = 0 := hdur
  refine ⟨hw, hwait, ?_, ?_, ?_⟩
  · rw [remaining_busy hb, hdur', hw]; rfl
  · rw [hcome]; exact hrun.now
  · rw [hcome]; exact hrun.writes

/-- An action that leaves the sequencer busy is the share alone, with no tick. -/
theorem msAction_busy {s : State} (h : (preTick s).seqBusy = true) : msAction s = .next (preTick s).endAction := by
  rw [msAction_eq, afterAction_of_not_ticks fun ht => Bool.noConfusion (h.symm.trans ht.2)]

/-- Settles O28: the share is outside the mode, the level, the flicker index and the FIFO. -/
theorem noTickWhileAnimating : Obligations.NoTickWhileAnimating :=
  fun s h => ⟨_, msAction_busy h, preTick_mode s, preTick_level s, preTick_flickT s, preTick_fifo s, h, preTick_tickPh s⟩

/-- The state that an action leaves when the animation goes on. -/
theorem playing_endAction {s : State} (h : s.playing = true) : s.endAction.playing = true := h

/-- Settles O27: the share of the action that goes on, and of the one that ends. -/
theorem runningAnimationKeepsItsTimeline : Obligations.RunningAnimationKeepsItsTimeline := by
  refine fun s hplay => ⟨fun hbusy => ?_, fun hidle => ?_⟩
  · obtain ⟨hplay', _, hrem, hw, hcome⟩ := share_goesOn hplay hbusy
    obtain ⟨htrace, hd0, hd1, _, _⟩ := hw
    have hsame : (preTick s).endAction.dutyTrace ++ (preTick s).endAction.toCome = s.dutyTrace ++ s.toCome := by
      rw [State.endAction_dutyTrace, htrace, List.append_assoc, ← hcome]
    refine ⟨_, msAction_busy hbusy, hplay', ?_, ?_, ?_, hrem, hsame, htrace, hd0, hd1⟩
    · simp [preTick]
    · simp [preTick]
    · rw [State.endAction_tau, preTick_tau]
  · obtain ⟨_, _, hrem, hnow, hw⟩ := share_ends hplay hidle
    exact ⟨hrem, hnow, hw⟩

/-! ### A run of milliseconds -/

/-- From `s` to `t`, an animation went on playing for `k` milliseconds: the writes `done` came off the front of what was to come,
and nothing outside the sequencer's share changed (R146, R148). -/
structure PlayedFor (k : Nat) (s t : State) (done : List DutyRecord) : Prop where
  playing : t.playing = true
  tau : t.tau = s.tau + k
  remaining : t.remaining + k = s.remaining
  trace : t.dutyTrace = s.dutyTrace ++ done
  toCome : s.toCome = done ++ t.toCome
  past : ∀ r ∈ done, r.tau < t.tau
  mode : t.mode = s.mode
  level : t.level = s.level
  flickT : t.flickT = s.flickT
  fifo : t.fifo = s.fifo

theorem upTo_tau_le {tau : Nat} {recs : List DutyRecord} : ∀ r ∈ upTo tau recs, r.tau ≤ tau := by
  intro r hr
  simpa using (List.mem_filter.1 hr).2

/-- One action of a playing sequencer that goes on. -/
theorem playedFor_one {s : State} (hplay : s.playing = true) (hbusy : (preTick s).seqBusy = true) :
    PlayedFor 1 s (preTick s).endAction (upTo s.tau s.toCome) := by
  obtain ⟨hplay', _, hrem, hw, hcome⟩ := share_goesOn hplay hbusy
  have htau : (preTick s).endAction.tau = s.tau + 1 := by rw [State.endAction_tau, preTick_tau]
  refine ⟨hplay', htau, hrem, hw.1, hcome, fun r hr => ?_, preTick_mode s, preTick_level s, preTick_flickT s, preTick_fifo s⟩
  have := upTo_tau_le r hr
  omega

theorem PlayedFor.trans {j k : Nat} {s t u : State} {a b : List DutyRecord} (h : PlayedFor j s t a) (g : PlayedFor k t u b) :
    PlayedFor (k + j) s u (a ++ b) where
  playing := g.playing
  tau := by rw [g.tau, h.tau]; omega
  remaining := by rw [← h.remaining, ← g.remaining]; omega
  trace := by rw [g.trace, h.trace, List.append_assoc]
  toCome := by rw [h.toCome, g.toCome, List.append_assoc]
  past := fun r hr => (List.mem_append.1 hr).elim (fun ha => by have := h.past r ha; have := g.tau; omega) (g.past r)
  mode := g.mode.trans h.mode
  level := g.level.trans h.level
  flickT := g.flickT.trans h.flickT
  fifo := g.fifo.trans h.fifo

/-- An animation with more than one millisecond to go is still playing after this one. -/
theorem preTick_busy_of_remaining {s : State} (hplay : s.playing = true) (h : 1 < s.remaining) :
    (preTick s).seqBusy = true := by
  by_contra hne
  obtain ⟨_, _, hone, _⟩ := share_ends hplay (Bool.eq_false_iff.2 hne)
  omega

/-- An animation plays for as long as time remains. -/
theorem msActions_playedFor (k : Nat) (s : State) (hplay : s.playing = true) (hk : k < s.remaining) :
    ∃ t done, msActions k s = .next t ∧ PlayedFor k s t done := by
  induction k generalizing s with
  | zero => exact ⟨s, [], rfl, hplay, rfl, rfl, by simp, by simp, by simp, rfl, rfl, rfl, rfl⟩
  | succ k ih =>
    have hbusy := preTick_busy_of_remaining hplay (by omega)
    have hone := playedFor_one hplay hbusy
    obtain ⟨t, done, hrun, hplayed⟩ := ih _ hone.playing (by have := hone.remaining; omega)
    refine ⟨t, _, ?_, hone.trans hplayed⟩
    rw [msActions, msAction_busy hbusy]
    exact hrun

theorem toCome_tau_ge (s : State) : ∀ r ∈ s.toCome, s.tau ≤ r.tau :=
  fun r hr => (Nat.le_add_right _ _).trans (timeline_tau_ge _ _ r hr)

/-- The writes up to a strobe, of a list that is cut there. -/
theorem upTo_split {tau : Nat} {recs a b : List DutyRecord} (h : recs = a ++ b) (ha : ∀ r ∈ a, r.tau ≤ tau)
    (hb : ∀ r ∈ b, tau < r.tau) : upTo tau recs = a := by
  rw [h, upTo_append, upTo_all ha, upTo_none hb, List.append_nil]

/-- From `SeqStart` at strobe `s.tau`, after `k` millisecond actions: the trace has the timeline up to then, and the rest of
the timeline is to come. -/
theorem seqStart_playedFor (anim : Anim) (T : Pct) (s : State) {k : Nat} (hk : k < scriptDuration (script anim T)) :
    ∃ t, msActions k (seqStart anim T s).endAction = .next t
      ∧ t.playing = true ∧ t.tau = s.tau + 1 + k ∧ t.remaining = scriptDuration (script anim T) - k
      ∧ t.dutyTrace = s.dutyTrace ++ upTo (s.tau + k) (timeline s.tau (script anim T))
      ∧ t.dutyTrace ++ t.toCome = s.dutyTrace ++ timeline s.tau (script anim T)
      ∧ t.mode = s.mode ∧ t.level = s.level ∧ t.flickT = s.flickT ∧ t.fifo = s.fifo := by
  obtain ⟨⟨htrace, _⟩, hb, hrem, hplay, _⟩ := seqStart_started anim T s
  have hbusy : (seqStart anim T s).seqBusy = true := by rw [hb]; exact decide_eq_true (by omega)
  obtain ⟨hplaying, _, _, hcome⟩ := hplay hbusy
  have hrem' : (seqStart anim T s).endAction.remaining = scriptDuration (script anim T) := hrem
  obtain ⟨t, done, hrun, hplayed⟩ := msActions_playedFor k _ (playing_endAction hplaying) (hrem' ▸ hk)
  have htau : t.tau = s.tau + 1 + k := by rw [hplayed.tau, State.endAction_tau, seqStart_tau]
  have htl : timeline s.tau (script anim T)
      = (upTo s.tau (timeline s.tau (script anim T)) ++ done) ++ t.toCome := by
    rw [List.append_assoc, ← hplayed.toCome, ← hcome]
  have hpast : ∀ r ∈ upTo s.tau (timeline s.tau (script anim T)) ++ done, r.tau ≤ s.tau + k := by
    intro r hr
    rcases List.mem_append.1 hr with hr | hr
    · have := upTo_tau_le r hr
      omega
    · have := hplayed.past r hr
      omega
  have hdue : upTo (s.tau + k) (timeline s.tau (script anim T))
      = upTo s.tau (timeline s.tau (script anim T)) ++ done := by
    refine upTo_split htl hpast fun r hr => ?_
    have := toCome_tau_ge t r hr
    omega
  have htrace' : t.dutyTrace = s.dutyTrace ++ (upTo s.tau (timeline s.tau (script anim T)) ++ done) := by
    rw [hplayed.trace, State.endAction_dutyTrace, htrace, List.append_assoc]
  refine ⟨t, hrun, hplayed.playing, htau, ?_, by rw [hdue, htrace'], ?_, ?_, ?_, ?_, ?_⟩
  · have := hplayed.remaining
    omega
  · rw [htrace', List.append_assoc, ← htl]
  · rw [hplayed.mode]; exact seqStart_mode anim T s
  · rw [hplayed.level]; exact seqStart_level anim T s
  · rw [hplayed.flickT]; exact seqStart_flickT anim T s
  · rw [hplayed.fifo]; exact seqStart_fifo anim T s

/-- The last millisecond ends the animation, and what was to come has been written. -/
theorem preTick_of_remaining_one {s : State} (hplay : s.playing = true) (h : s.remaining = 1) :
    (preTick s).seqBusy = false ∧ (preTick s).dutyTrace = s.dutyTrace ++ s.toCome := by
  cases hbusy : (preTick s).seqBusy with
  | false =>
    obtain ⟨_, _, _, _, hw⟩ := share_ends hplay hbusy
    exact ⟨rfl, hw.1⟩
  | true =>
    obtain ⟨hplay', _, hrem, _, _⟩ := share_goesOn hplay hbusy
    obtain ⟨hb, hw1, _⟩ := playing_iff.1 hplay'
    rw [remaining_busy hb] at hrem
    omega

/-- A script without a wait is over at once, with all its writes made (R145). -/
theorem seqStart_of_no_wait {anim : Anim} {T : Pct} (s : State) (h : scriptDuration (script anim T) = 0) :
    (seqStart anim T s).seqBusy = false
      ∧ (seqStart anim T s).dutyTrace = s.dutyTrace ++ timeline s.tau (script anim T) := by
  obtain ⟨_, hb, _⟩ := seqStart_started anim T s
  have hidle : (seqStart anim T s).seqBusy = false := by rw [hb, h]; rfl
  obtain ⟨recs, hrun⟩ := seqStart_runOf anim T s
  have hrecs := (hrun.ends hidle).1
  rw [beginScript_todo, State.beginScript_tau] at hrecs
  refine ⟨hidle, ?_⟩
  rw [hrun.writes.1, hrecs]
  rfl

/-- Settles O26: the run of `k` milliseconds from the start, and the last one from the state before it. -/
theorem sequencerPlaysTheTimeline : Obligations.SequencerPlaysTheTimeline := by
  refine fun anim T s => ⟨fun k hk => ?_, seqStart_of_no_wait s⟩
  obtain ⟨t, hrun, hplay, htau, hrem, htrace, hsame, hmode, hlevel, hflick, hfifo⟩ := seqStart_playedFor anim T s hk
  refine ⟨t, hrun, (playing_iff.1 hplay).1, htau, htrace, hrem, hmode, hlevel, hflick, hfifo, fun hlast => ?_⟩
  obtain ⟨hidle, hend⟩ := preTick_of_remaining_one hplay (by omega)
  exact ⟨hidle, hend.trans hsame⟩

end Sys2Proof.Machine
end

section
/-! The two invariants (10_state.md R39, R23, R40; 00_scope.md R11), and what follows from the first: an animation ends on a tick
boundary, and the one case of several writes in an action (70_reset_and_hazards.md R252, R256). The first invariant is kept by
the sequencer's share and by the tick separately: the share moves the phase on by one and takes one millisecond off what
remains, so that their sum is the same modulo 10; a tick starts an animation at phase 1 with whole ticks to go. -/

namespace Sys2Proof.Machine

/-! ### The invariant, taken apart -/

theorem sequencerOk_idle {s : State} (h : s.seqBusy = false) : s.sequencerOk = true ↔ s.seqWait = 0 := by
  simp [State.sequencerOk, h]

theorem sequencerOk_busy {s : State} (h : s.seqBusy = true) : s.sequencerOk = true ↔
    animFor s.mode = some s.seqAnim ∧ s.seqTgt = target s.level ∧ s.playing = true ∧ s.seqWait.toNat ≤ 500
      ∧ s.midScript = true ∧ (s.tickPh.toNat + s.remaining) % 10 = 1 := by
  have h500 : s.seqWait ≤ 500 ↔ s.seqWait.toNat ≤ 500 := Iff.rfl
  have hcfg : Config.tickMs = 10 := rfl
  rw [State.sequencerOk, if_pos h, hcfg, playing_iff]
  simp only [Bool.and_eq_true, beq_iff_eq, decide_eq_true_eq, h500, h, true_and, BitVec.le_def]
  constructor
  · rintro ⟨⟨⟨⟨⟨⟨hanim, htgt⟩, hlo⟩, hhi⟩, hpos⟩, hmid⟩, hend⟩
    exact ⟨hanim, htgt, ⟨hlo, hpos⟩, hhi, hmid, hend⟩
  · rintro ⟨hanim, htgt, ⟨hlo, hpos⟩, hhi, hmid, hend⟩
    exact ⟨⟨⟨⟨⟨⟨hanim, htgt⟩, hlo⟩, hhi⟩, hpos⟩, hmid⟩, hend⟩

/-- The ranges of the registers that the invariant asks for, beside the sequencer's position (R39). -/
structure InRange (s : State) : Prop where
  level : s.level.toNat ≤ 9
  fifo : s.fifo.length ≤ 4
  duty0 : s.duty0 ≤ 100
  duty1 : s.duty1 ≤ 100
  tickPh : s.tickPh.toNat ≤ 9
  seqVal : s.seqVal ≤ 100

/-- A consistent sequencer meets R39's clause about `seq_wait`, so that the rest of the invariant is ranges. -/
theorem inv_iff {s : State} : s.Inv ↔ InRange s ∧ s.sequencerOk = true := by
  unfold State.Inv
  rw [legal_iff]
  constructor
  · rintro ⟨⟨hlevel, hfifo, hd0, hd1, _⟩, hph, hval, hseq⟩
    exact ⟨⟨hlevel, hfifo, hd0, hd1, hph, hval⟩, hseq⟩
  · rintro ⟨h, hseq⟩
    refine ⟨⟨h.level, h.fifo, h.duty0, h.duty1, ?_⟩, h.tickPh, h.seqVal, hseq⟩
    cases hb : s.seqBusy with
    | true =>
      obtain ⟨_, _, hplay, _⟩ := (sequencerOk_busy hb).1 hseq
      exact (playing_iff.1 hplay).2.1
    | false => exact (sequencerOk_idle hb).1 hseq

/-- The facts that the invariant has of a busy sequencer. -/
theorem State.Inv.busy {s : State} (h : s.Inv) (hb : s.seqBusy = true) :
    animFor s.mode = some s.seqAnim ∧ s.seqTgt = target s.level ∧ s.playing = true ∧ s.seqWait.toNat ≤ 500
      ∧ s.midScript = true ∧ (s.tickPh.toNat + s.remaining) % 10 = 1 :=
  (sequencerOk_busy hb).1 (inv_iff.1 h).2

/-- The ranges after some writes of percentages. -/
theorem InRange.of_writes {s t : State} {recs : List DutyRecord} (h : InRange s) (hw : WritesApplied recs s t)
    (hpct : ∀ r ∈ recs, r.pct ≤ 100) (hlevel : t.level.toNat ≤ 9) (hfifo : t.fifo.length ≤ 4) (hph : t.tickPh.toNat ≤ 9)
    (hval : t.seqVal ≤ 100) : InRange t := by
  obtain ⟨_, hd0, hd1, _, _⟩ := hw
  refine ⟨hlevel, hfifo, ?_, ?_, hph, hval⟩
  · rw [hd0]; exact lastPct_le recs .ch0 s.duty0 100 h.duty0 hpct
  · rw [hd1]; exact lastPct_le recs .ch1 s.duty1 100 h.duty1 hpct

/-! ### The sequencer's share keeps the invariant -/

theorem preTick_idle {s : State} (h : s.seqBusy = false) : preTick s = s.advancePhase := by rw [preTick_eq, if_pos h]

/-- What a playing animation has to come are percentages. -/
theorem toCome_pct_le {s : State} (h : s.Inv) (hb : s.seqBusy = true) : ∀ r ∈ s.toCome, r.pct ≤ 100 := by
  obtain ⟨hrange, _⟩ := inv_iff.1 h
  obtain ⟨_, htgt, _⟩ := h.busy hb
  exact timeline_pct_le (todo_pctLe (by rw [htgt]; exact target_le hrange.level) hrange.seqVal) _

/-- The share writes percentages. -/
theorem preTick_writes_pct {s : State} (h : s.Inv) :
    ∃ recs, WritesApplied recs s (preTick s) ∧ ∀ r ∈ recs, r.pct ≤ 100 := by
  cases hb : s.seqBusy with
  | false => exact ⟨[], by rw [preTick_idle hb]; exact .refl s, by simp⟩
  | true =>
    have hpct := toCome_pct_le h hb
    obtain ⟨_, _, hplay, _⟩ := h.busy hb
    cases hbusy : (preTick s).seqBusy with
    | true =>
      obtain ⟨_, _, _, hw, _⟩ := share_goesOn hplay hbusy
      exact ⟨_, hw, fun r hr => hpct r (List.mem_of_mem_filter hr)⟩
    | false =>
      obtain ⟨_, _, _, _, hw⟩ := share_ends hplay hbusy
      exact ⟨_, hw, hpct⟩

/-- `seq_val` stays a percentage over the share. -/
theorem preTick_seqVal_le {s : State} (h : s.Inv) : (preTick s).seqVal ≤ 100 := by
  obtain ⟨hrange, _⟩ := inv_iff.1 h
  rw [preTick_eq]
  split
  · exact hrange.seqVal
  · rename_i hb
    obtain ⟨_, htgt, hplay, _⟩ := h.busy (by simpa using hb)
    split
    · exact seqRunFrom_seqVal_le _ (s.advancePhase.setWait 0) rfl (playing_iff.1 hplay).2.2
        (by rw [State.setWait_seqTgt, State.advancePhase_seqTgt, htgt]; exact target_le hrange.level) hrange.seqVal
    · exact hrange.seqVal

/-- A share that goes on is where a wait leads. -/
theorem preTick_midScript {s : State} (hmid : s.midScript = true) (hb : s.seqBusy = true)
    (hbusy : (preTick s).seqBusy = true) : (preTick s).midScript = true := by
  rw [preTick_eq, hb, if_neg Bool.noConfusion] at hbusy ⊢
  split
  · rename_i hw
    rw [if_pos hw] at hbusy
    exact seqRunFrom_midScript _ (s.advancePhase.setWait 0) rfl hbusy
  · exact hmid

theorem preTick_sequencerOk {s : State} (h : s.Inv) : (preTick s).sequencerOk = true := by
  obtain ⟨hrange, hseq⟩ := inv_iff.1 h
  cases hb : s.seqBusy with
  | false =>
    rw [preTick_idle hb]
    exact (sequencerOk_idle (s := s.advancePhase) hb).2 ((sequencerOk_idle hb).1 hseq)
  | true =>
    obtain ⟨hanim, htgt, hplay, h500, hmid, hend⟩ := h.busy hb
    cases hbusy : (preTick s).seqBusy with
    | false =>
      obtain ⟨_, hzero, _⟩ := share_ends hplay hbusy
      exact (sequencerOk_idle hbusy).2 hzero
    | true =>
      obtain ⟨hplay', hwait, hrem, _, _⟩ := share_goesOn hplay hbusy
      refine (sequencerOk_busy hbusy).2 ⟨?_, ?_, hplay', by omega, preTick_midScript hmid hb hbusy, ?_⟩
      · rw [preTick_mode, hanim]; simp [preTick]
      · rw [preTick_level, ← htgt]; simp [preTick]
      · rw [preTick_tickPh]
        omega

theorem preTick_inv {s : State} (h : s.Inv) : (preTick s).Inv := by
  obtain ⟨hrange, _⟩ := inv_iff.1 h
  obtain ⟨recs, hw, hpct⟩ := preTick_writes_pct h
  refine inv_iff.2 ⟨hrange.of_writes hw hpct ?_ ?_ ?_ (preTick_seqVal_le h), preTick_sequencerOk h⟩
  · rw [preTick_level]; exact hrange.level
  · rw [preTick_fifo]; exact hrange.fifo
  · rw [preTick_tickPh]; omega

/-! ### The tick keeps the invariant -/

/-- A flicker step keeps the invariant: it writes two percentages and leaves the sequencer alone. -/
theorem flickerStep_inv {s : State} (h : s.Inv) (hidle : s.seqBusy = false) : (flickerStep s).Inv := by
  obtain ⟨hrange, hseq⟩ := inv_iff.1 h
  refine inv_iff.2 ⟨hrange.of_writes (flickerStep_writesApplied s) ?_ ?_ ?_ ?_ ?_, ?_⟩
  · simpa using flick_le_100 s.flickT
  · simpa using hrange.level
  · simpa using hrange.fifo
  · simpa using hrange.tickPh
  · simpa using hrange.seqVal
  · rw [sequencerOk_idle (by simpa using hidle), flickerStep_seqWait]
    exact (sequencerOk_idle hidle).1 hseq

/-- What an animation started at phase 1 leaves of the sequencer: it plays the mode's script to a tick boundary, or it is idle
with no wait (41_sequencer.md R145, 70_reset_and_hazards.md R252). -/
theorem seqStart_sequencerOk {s : State} {anim : Anim} (h : s.Inv) (hidle : s.seqBusy = false) (hph : s.tickPh.toNat = 1)
    (hanim : animFor s.mode = some anim) : (seqStart anim (target s.level) s).sequencerOk = true := by
  obtain ⟨hrange, hseq⟩ := inv_iff.1 h
  obtain ⟨recs, hrun⟩ := seqStart_runOf anim (target s.level) s
  obtain ⟨_, _, hrem, hplay, _⟩ := seqStart_started anim (target s.level) s
  have hticks := ten_dvd_duration hrange.level anim
  cases hb : (seqStart anim (target s.level) s).seqBusy with
  | true =>
    obtain ⟨hplay', ha, hT, _⟩ := hplay hb
    obtain ⟨_, h500, _⟩ := hrun.goesOn hb
    refine (sequencerOk_busy hb).2 ⟨?_, ?_, hplay', h500, ?_, ?_⟩
    · rw [seqStart_mode, ha, hanim]
    · rw [seqStart_level, hT]
    · exact seqRunFrom_midScript _ (s.beginScript anim (target s.level)) rfl hb
    · rw [seqStart_tickPh, hrem, hph]
      omega
  | false =>
    obtain ⟨_, _, hwait⟩ := hrun.ends hb
    refine (sequencerOk_idle hb).2 (hwait.trans ?_)
    exact (sequencerOk_idle hidle).1 hseq

theorem seqStart_inv {s : State} {anim : Anim} (h : s.Inv) (hidle : s.seqBusy = false) (hph : s.tickPh.toNat = 1)
    (hanim : animFor s.mode = some anim) : (seqStart anim (target s.level) s).Inv := by
  obtain ⟨hrange, _⟩ := inv_iff.1 h
  have hT : target s.level ≤ 100 := target_le hrange.level
  obtain ⟨hw, _⟩ := seqStart_started anim (target s.level) s
  refine inv_iff.2 ⟨hrange.of_writes hw ?_ ?_ ?_ ?_ ?_, seqStart_sequencerOk h hidle hph hanim⟩
  · exact fun r hr => timeline_pct_le (script_pctLe anim hT) _ r (List.mem_of_mem_filter hr)
  · rw [seqStart_level]; exact hrange.level
  · rw [seqStart_fifo]; exact hrange.fifo
  · rw [seqStart_tickPh]; exact hrange.tickPh
  · exact seqRunFrom_seqVal_le _ (s.beginScript anim (target s.level)) rfl (beginScript_positionOk _ _ _) hT hrange.seqVal

/-- With the sequencer idle, the invariant does not read the mode, and reads only the range of the level. -/
theorem setModeLevel_inv {s : State} (h : s.Inv) (hidle : s.seqBusy = false) (m : Mode) {l : Level} (hl : l.toNat ≤ 9) :
    (s.setModeLevel m l).Inv := by
  obtain ⟨hrange, hseq⟩ := inv_iff.1 h
  refine inv_iff.2 ⟨⟨hl, hrange.fifo, hrange.duty0, hrange.duty1, hrange.tickPh, hrange.seqVal⟩, ?_⟩
  exact (sequencerOk_idle (s := s.setModeLevel m l) hidle).2 ((sequencerOk_idle hidle).1 hseq)

theorem animFor_of_ne_nikomi {m : Mode} (h : m ≠ .nikomi) : animFor m = some (entryScript m) := by
  cases m with
  | nikomi => exact absurd rfl h
  | powerOff | standby | powerOn | panShake | levelUp | levelDown => rfl

/-- A tick with the sequencer idle, at the phase that a boundary's action has moved on to, keeps the invariant. -/
theorem applyEvent_inv {s : State} (h : s.Inv) (hidle : s.seqBusy = false) (hph : s.tickPh.toNat = 1) (ev : Event) :
    (applyEvent ev s).Inv := by
  have h' := setModeLevel_inv h hidle (nextModeLevel s.mode s.level ev).1
    (next_level_le (inv_iff.1 h).1.level s.mode ev)
  unfold applyEvent
  rcases outputAction_cases s.mode
    (s.setModeLevel (nextModeLevel s.mode s.level ev).1 (nextModeLevel s.mode s.level ev).2)
    with ⟨_, e⟩ | ⟨hm, _, e⟩ | ⟨_, _, e⟩
  · simp only [e]; exact flickerStep_inv h' hidle
  · simp only [e]; exact seqStart_inv h' hidle hph (animFor_of_ne_nikomi hm)
  · simp only [e]; exact h'

theorem dropOldest_inv {s : State} (h : s.Inv) : s.dropOldest.Inv := by
  obtain ⟨hrange, hseq⟩ := inv_iff.1 h
  refine inv_iff.2 ⟨⟨hrange.level, ?_, hrange.duty0, hrange.duty1, hrange.tickPh, hrange.seqVal⟩, hseq⟩
  rw [State.dropOldest_fifo, List.length_tail]
  exact (Nat.sub_le _ _).trans hrange.fifo

theorem endAction_inv {s : State} (h : s.Inv) : s.endAction.Inv := h

theorem afterAction_inv {s : State} (h : s.Inv) : (afterAction s).Inv := by
  by_cases ht : s.ticks
  · have hph : (preTick s).tickPh.toNat = 1 := by rw [preTick_tickPh, ht.1]; rfl
    rw [afterAction_of_ticks ht]
    exact endAction_inv (applyEvent_inv (dropOldest_inv (preTick_inv h)) ht.2 hph _)
  · rw [afterAction_of_not_ticks ht]
    exact endAction_inv (preTick_inv h)

/-! ### The edges keep the invariant -/

/-- An accepted word finds room (20_memory.md R52). -/
theorem length_append_pushedWords {s : State} {fifo : List EventWord} (hs : s.fifo.length ≤ 4)
    (hf : fifo.length ≤ s.fifo.length) (p : PortIn) : (fifo ++ pushedWords s.hasRoom p).length ≤ 4 := by
  rw [pushedWords_hasRoom, List.length_append]
  split
  · rename_i h
    have hroom := h.2
    simp only [List.length_singleton]
    omega
  · simp only [List.length_nil]
    omega

theorem acceptPush_inv {ready : Bool} {p : PortIn} {s : State} (h : s.Inv)
    (hroom : (s.fifo ++ pushedWords ready p).length ≤ 4) : (acceptPush ready p s).Inv := by
  obtain ⟨hrange, hseq⟩ := inv_iff.1 h
  rw [acceptPush_eq]
  exact inv_iff.2 ⟨⟨hrange.level, hroom, hrange.duty0, hrange.duty1, hrange.tickPh, hrange.seqVal⟩, hseq⟩

theorem reset_inRange : InRange State.reset :=
  ⟨by decide, by decide, by decide, by decide, by decide, by decide⟩

/-- Settles O54: the registers are in range and the sequencer is idle with no wait. -/
theorem resetMeetsInvariant : Obligations.ResetMeetsInvariant :=
  inv_iff.2 ⟨reset_inRange, (sequencerOk_idle rfl).2 rfl⟩

theorem afterAction_fifo_length_le (s : State) : (afterAction s).fifo.length ≤ s.fifo.length := by
  by_cases ht : s.ticks
  · rw [afterAction_fifo_of_ticks ht, List.length_tail]
    omega
  · rw [afterAction_fifo_of_not_ticks ht]

/-- Settles O53: the three kinds of edge. -/
theorem stepKeepsInvariant : Obligations.StepKeepsInvariant := by
  intro s t hinv h
  have hport : (nextPort s).2.clearWe.Inv := (nextPort_inv s).2 hinv
  have hfifo : (nextPort s).2.clearWe.fifo = s.fifo := by simp
  have hlen := (inv_iff.1 hinv).1.fifo
  cases hrst : (nextPort s).1.rst with
  | true =>
    rw [step_of_reset hrst] at h
    injection h with h
    rw [← h]
    exact resetMeetsInvariant
  | false =>
    cases hstrobe : (nextPort s).1.msStrobe with
    | true =>
      obtain ⟨_, _, rfl⟩ := step_at_strobe h hrst hstrobe
      refine acceptPush_inv (s := (afterAction (nextPort s).2.clearWe).noteStrobe true) (afterAction_inv hport) ?_
      exact length_append_pushedWords hlen (hfifo ▸ afterAction_fifo_length_le _) _
    | false =>
      obtain ⟨_, rfl⟩ := step_off_strobe h hrst hstrobe
      refine acceptPush_inv (s := (nextPort s).2.clearWe.noteStrobe false) hport ?_
      exact length_append_pushedWords hlen (hfifo ▸ le_rfl) _

/-- Settles O30: one millisecond remains, and the phase and what remains add up to 1 modulo 10. -/
theorem animationEndsOnABoundary : Obligations.AnimationEndsOnABoundary := by
  intro s hinv hb hidle
  obtain ⟨hrange, _⟩ := inv_iff.1 hinv
  obtain ⟨_, _, hplay, _, _, hend⟩ := hinv.busy hb
  obtain ⟨_, _, hrem, _⟩ := share_ends hplay hidle
  have hph : s.tickPh.toNat = 0 := by
    have := hrange.tickPh
    omega
  exact beq_iff_eq.2 (BitVec.eq_of_toNat_eq hph)

/-! ### The writes of one run, exactly -/

/-- The writes that a run of the sequencer from `s` makes, with the primitives `ps` ahead: those of the SETs up to the first
primitive that takes time, and if that is a RAMP, its present value (41_sequencer.md R146). -/
def runRecords (s : State) : List Prim → List DutyRecord
  | [] => []
  | .set chs v :: ps => (chs.map fun ch => ⟨s.tau, ch, v⟩) ++ runRecords s ps
  | .pause _ :: _ => []
  | .ramp chs a _ _ :: _ => chs.map fun ch => ⟨s.tau, ch, rampNow a s⟩

/-- They depend on the strobe and on the ramp registers only. -/
theorem runRecords_congr {s t : State} (htau : t.tau = s.tau) (hinr : t.seqInr = s.seqInr) (hval : t.seqVal = s.seqVal)
    (ps : List Prim) : runRecords t ps = runRecords s ps := by
  induction ps with
  | nil => rfl
  | cons p ps ih => cases p <;> simp [runRecords, rampNow, htau, hinr, hval, ih]

theorem seqRunFrom_runRecords (ps : List Prim) (s : State) : WritesApplied (runRecords s ps) s (seqRunFrom ps s) := by
  induction ps generalizing s with
  | nil => exact .refl s
  | cons p ps ih =>
    cases p with
    | pause d => exact .refl s
    | ramp chs a b step => exact rampStep_writesApplied chs a b step s
    | set chs v =>
      have hrest := ih (s.write chs v).nextPrim
      rw [runRecords_congr (s := s) (by simp) (by simp) (by simp)] at hrest
      exact (write_writesApplied s chs v).trans hrest

theorem runRecords_tau (ps : List Prim) (s : State) : ∀ r ∈ runRecords s ps, r.tau = s.tau := by
  induction ps with
  | nil => simp [runRecords]
  | cons p ps ih =>
    cases p with
    | pause d => simp [runRecords]
    | ramp chs a b step => simp [runRecords]
    | set chs v =>
      intro r hr
      rcases List.mem_append.1 hr with hr | hr
      · obtain ⟨_, _, rfl⟩ := List.mem_map.1 hr
        rfl
      · exact ih r hr

/-- The writes of the sequencer's share of an action. -/
def shareRecords (s : State) : List DutyRecord :=
  if s.seqBusy = true ∧ s.seqWait = 1 then runRecords s s.restOfScript else []

theorem preTick_shareRecords (s : State) : WritesApplied (shareRecords s) s (preTick s) := by
  rw [preTick_eq, shareRecords]
  by_cases hb : s.seqBusy = true
  · by_cases hw : s.seqWait = 1
    · rw [if_pos ⟨hb, hw⟩, if_neg (by simp [hb]), if_pos hw]
      have h := seqRunFrom_runRecords s.restOfScript (s.advancePhase.setWait 0)
      rw [runRecords_congr (t := s.advancePhase.setWait 0) (s := s) rfl rfl rfl] at h
      exact h
    · rw [if_neg fun h => hw h.2, if_neg (by simp [hb]), if_neg hw]
      exact .refl s
  · rw [if_neg fun h => hb h.1, if_pos (Bool.eq_false_iff.2 hb)]
    exact .refl s

theorem shareRecords_tau (s : State) : ∀ r ∈ shareRecords s, r.tau = s.tau := by
  unfold shareRecords
  split
  · exact runRecords_tau _ s
  · simp

/-- The writes of a tick's output action, in the state with the new mode and level. -/
def outputRecords (old : Mode) (s : State) : List DutyRecord :=
  if s.mode = .nikomi then both.map fun ch => ⟨s.tau, ch, flick s.flickT⟩
  else if s.mode = old then []
  else runRecords (s.beginScript (entryScript s.mode) (target s.level)) (script (entryScript s.mode) (target s.level))

theorem outputAction_outputRecords (old : Mode) (s : State) :
    WritesApplied (outputRecords old s) s (outputAction old s) := by
  unfold outputRecords
  rcases outputAction_cases old s with ⟨hm, e⟩ | ⟨hm, ho, e⟩ | ⟨hm, ho, e⟩
  · rw [if_pos hm, e]
    exact flickerStep_writesApplied s
  · rw [if_neg hm, if_neg ho, e]
    exact seqRunFrom_runRecords _ (s.beginScript (entryScript s.mode) (target s.level))
  · rw [if_neg hm, if_pos ho, e]
    exact .refl s

theorem outputRecords_tau (old : Mode) (s : State) : ∀ r ∈ outputRecords old s, r.tau = s.tau := by
  unfold outputRecords
  split
  · simp
  · split
    · simp
    · exact runRecords_tau _ (s.beginScript (entryScript s.mode) (target s.level))

/-- The writes of a tick that takes the event `ev`. -/
def tickRecords (ev : Event) (s : State) : List DutyRecord :=
  outputRecords s.mode (s.setModeLevel (nextModeLevel s.mode s.level ev).1 (nextModeLevel s.mode s.level ev).2)

theorem applyEvent_tickRecords (ev : Event) (s : State) : WritesApplied (tickRecords ev s) s (applyEvent ev s) :=
  outputAction_outputRecords s.mode _

theorem tickRecords_tau (ev : Event) (s : State) : ∀ r ∈ tickRecords ev s, r.tau = s.tau :=
  outputRecords_tau s.mode (s.setModeLevel _ _)

/-- An action that ticks makes the share's writes and then the tick's. -/
theorem afterAction_records_of_ticks {s : State} (h : s.ticks) :
    WritesApplied (shareRecords s ++ tickRecords (nextEvent s) (preTick s).dropOldest) s (afterAction s) := by
  rw [afterAction_of_ticks h]
  exact (preTick_shareRecords s).trans (applyEvent_tickRecords (nextEvent s) (preTick s).dropOldest)

theorem afterAction_records_of_not_ticks {s : State} (h : ¬ s.ticks) :
    WritesApplied (shareRecords s) s (afterAction s) := by
  rw [afterAction_of_not_ticks h]
  exact preTick_shareRecords s

/-- Whatever an action writes is recorded at its own strobe (00_scope.md R11 (a)). -/
theorem afterAction_records_now (s : State) :
    ∃ recs, WritesApplied recs s (afterAction s) ∧ ∀ r ∈ recs, r.tau = s.tau := by
  by_cases h : s.ticks
  · refine ⟨_, afterAction_records_of_ticks h, fun r hr => ?_⟩
    rcases List.mem_append.1 hr with hr | hr
    · exact shareRecords_tau s r hr
    · exact (tickRecords_tau _ _ r hr).trans (preTick_tau s)
  · exact ⟨_, afterAction_records_of_not_ticks h, shareRecords_tau s⟩

/-! ### The invariant of the observation -/

/-- Settles O56: nothing has been observed. -/
theorem resetMeetsObservationInvariant : Obligations.ResetMeetsObservationInvariant :=
  ⟨rfl, rfl, by simp [State.reset], rfl, by simp [State.reset], by simp [State.reset]⟩

/-- A millisecond action keeps the observation's invariant. -/
theorem afterAction_observationInv {s : State} (h : s.ObservationInv) : (afterAction s).ObservationInv := by
  obtain ⟨hd0, hd1, htrace, hdec, _, hfifo⟩ := h
  obtain ⟨recs, ⟨htr, hw0, hw1, _, _⟩, hnow⟩ := afterAction_records_now s
  refine ⟨?_, ?_, fun r hr => ?_, ?_, fun r hr => ?_, ?_⟩
  · rw [htr, hw0, hd0, lastPct_append]
  · rw [htr, hw1, hd1, lastPct_append]
  · rw [afterAction_tau]
    rw [htr] at hr
    rcases List.mem_append.1 hr with hr | hr
    · exact (htrace r hr).trans (Nat.lt_succ_self _)
    · exact (hnow r hr).trans_lt (Nat.lt_succ_self _)
  · rw [afterAction_tau, afterAction_decisions, List.map_append, hdec, List.range_succ]
    rfl
  · rw [afterAction_decisions, List.getLast?_concat] at hr
    cases hr
    exact ⟨rfl, rfl⟩
  · rw [afterAction_accepted]
    by_cases ht : s.ticks
    · rw [afterAction_fifo_of_ticks ht]
      exact (List.tail_suffix _).trans hfifo
    · rwa [afterAction_fifo_of_not_ticks ht]

/-- A push keeps it: the FIFO and the accepted words grow by the same word. -/
theorem acceptPush_observationInv {ready : Bool} {p : PortIn} {s : State} (h : s.ObservationInv) :
    (acceptPush ready p s).ObservationInv := by
  obtain ⟨hd0, hd1, htrace, hdec, hlast, hfifo⟩ := h
  rw [acceptPush_eq]
  refine ⟨hd0, hd1, htrace, hdec, hlast, ?_⟩
  show s.fifo ++ pushedWords ready p
    <:+ (s.accepted ++ (pushedWords ready p).map fun w => (⟨s.tau, w⟩ : AcceptRecord)).map (·.word)
  rw [List.map_append, List.map_map, show ((·.word) ∘ fun w => (⟨s.tau, w⟩ : AcceptRecord)) = id from rfl, List.map_id]
  obtain ⟨before, hbefore⟩ := hfifo
  exact ⟨before, by rw [← hbefore, List.append_assoc]⟩

/-- Settles O55: the three kinds of edge. -/
theorem stepKeepsObservationInvariant : Obligations.StepKeepsObservationInvariant := by
  intro s t hinv h
  have hport : (nextPort s).2.clearWe.ObservationInv := (nextPort_observationInv s).2 hinv
  cases hrst : (nextPort s).1.rst with
  | true =>
    rw [step_of_reset hrst] at h
    injection h with h
    rw [← h]
    exact resetMeetsObservationInvariant
  | false =>
    cases hstrobe : (nextPort s).1.msStrobe with
    | true =>
      obtain ⟨_, _, rfl⟩ := step_at_strobe h hrst hstrobe
      exact acceptPush_observationInv (s := (afterAction (nextPort s).2.clearWe).noteStrobe true)
        (afterAction_observationInv hport)
    | false =>
      obtain ⟨_, rfl⟩ := step_off_strobe h hrst hstrobe
      exact acceptPush_observationInv (s := (nextPort s).2.clearWe.noteStrobe false) hport

end Sys2Proof.Machine
end

section
/-! What a running animation does not read (41_sequencer.md R148), and the one action that writes a channel twice
(70_reset_and_hazards.md R256). A run of the sequencer from a position that a wait led to makes at most one SET or one value of
a RAMP; only `A_OFF` ends in a SET, in PowerOff, and only a press of Power writes in the tick after that. -/

namespace Sys2Proof.Machine

/-! ### The FIFO is outside a running animation -/

/-- `s` with another FIFO and other words accepted. -/
def State.withQueue (s : State) (ws : List EventWord) (acc : List AcceptRecord) : State :=
  { s with fifo := ws, accepted := acc }

section
variable (ws : List EventWord) (acc : List AcceptRecord)

theorem write_withQueue (chs : List Channel) (v : Pct) (s : State) :
    (s.withQueue ws acc).write chs v = (s.write chs v).withQueue ws acc := by
  induction chs generalizing s with
  | nil => rfl
  | cons ch chs ih =>
    have hone : (s.withQueue ws acc).writeChannel ch v = (s.writeChannel ch v).withQueue ws acc := by cases ch <;> rfl
    rw [State.write, hone, ih]
    rfl

theorem rampMove_withQueue (a b v : Pct) (s : State) :
    rampMove a b v (s.withQueue ws acc) = (rampMove a b v s).withQueue ws acc := by
  unfold rampMove
  split <;> rfl

theorem rampStep_withQueue (chs : List Channel) (a b : Pct) (step : Millis) (s : State) :
    rampStep chs a b step (s.withQueue ws acc) = (rampStep chs a b step s).withQueue ws acc := by
  have hwrite := write_withQueue ws acc chs (rampNow a s) (s.setRamp true (rampNow a s))
  have hmove := rampMove_withQueue ws acc a b (rampNow a s)
    (((s.setRamp true (rampNow a s)).write chs (rampNow a s)).setWait step)
  calc rampStep chs a b step (s.withQueue ws acc)
      = rampMove a b (rampNow a s)
          ((((s.setRamp true (rampNow a s)).withQueue ws acc).write chs (rampNow a s)).setWait step) := rfl
    _ = (rampStep chs a b step s).withQueue ws acc := by rw [hwrite]; exact hmove

theorem seqRunFrom_withQueue (ps : List Prim) (s : State) :
    seqRunFrom ps (s.withQueue ws acc) = (seqRunFrom ps s).withQueue ws acc := by
  induction ps generalizing s with
  | nil => rfl
  | cons p ps ih =>
    cases p with
    | pause d => rfl
    | ramp chs a b step => exact rampStep_withQueue ws acc chs a b step s
    | set chs v =>
      rw [seqRunFrom, write_withQueue]
      exact ih (s.write chs v).nextPrim

theorem preTick_withQueue (s : State) : preTick (s.withQueue ws acc) = (preTick s).withQueue ws acc := by
  rw [preTick_eq, preTick_eq]
  show (if s.seqBusy = false then _ else if s.seqWait = 1 then _ else _) = _
  split
  · rfl
  · split
    · exact seqRunFrom_withQueue ws acc _ (s.advancePhase.setWait 0)
    · rfl

end

/-- What an edge outside reset does before its push. -/
def edgeState (strobe : Bool) (s : State) : State :=
  if strobe then (afterAction s.clearWe).noteStrobe true else s.clearWe.noteStrobe false

theorem clockEdge_next {p : PortIn} {s t : State} (hrst : p.rst = false) (h : clockEdge p s = .next t) :
    t = acceptPush s.hasRoom p (edgeState p.msStrobe s) := by
  rcases clockEdge_cases p s with ⟨h0, _⟩ | ⟨_, _, e⟩ | ⟨_, _, _, _, e⟩ | ⟨_, _, h2, _, e⟩ | ⟨_, _, h2, e⟩
  · simp [hrst] at h0
  · rw [e] at h; cases h
  · rw [e] at h; cases h
  · rw [e] at h; injection h with h
    rw [← h, h2]; rfl
  · rw [e] at h; injection h with h
    rw [← h, h2]; rfl

/-- An edge at which an animation goes on does not read the queue. -/
theorem edgeState_withQueue {s : State} (hbusy : (preTick s).seqBusy = true) (strobe : Bool) (ws : List EventWord)
    (acc : List AcceptRecord) : edgeState strobe (s.withQueue ws acc) = (edgeState strobe s).withQueue ws acc := by
  have hclear : (s.withQueue ws acc).clearWe = s.clearWe.withQueue ws acc := rfl
  have hgoes : ¬ s.clearWe.ticks := fun h => by
    rw [State.ticks, preTick_clearWe_seqBusy, hbusy] at h
    exact Bool.noConfusion h.2
  have hgoes' : ¬ (s.clearWe.withQueue ws acc).ticks := fun h => by
    rw [State.ticks, preTick_withQueue] at h
    exact hgoes h
  unfold edgeState
  split
  · rw [hclear, afterAction_of_not_ticks hgoes', afterAction_of_not_ticks hgoes, preTick_withQueue]
    rfl
  · rfl

/-- A push changes the queue only. -/
theorem acceptPush_withQueue (ready : Bool) (p : PortIn) (s : State) :
    ∃ ws acc, acceptPush ready p s = s.withQueue ws acc := ⟨_, _, acceptPush_eq ready p s⟩

/-- Settles O29: both edges are one edge of the rest, and their queues are all that is left to differ. -/
theorem runningAnimationIgnoresEvents : Obligations.RunningAnimationIgnoresEvents := by
  intro s t t' ws acc p p' hbusy hrst hrst' hstrobe h h'
  have e := clockEdge_next hrst h
  have e' := clockEdge_next hrst' h'
  change t' = acceptPush _ p' (edgeState p'.msStrobe (s.withQueue ws acc)) at e'
  rw [← hstrobe, edgeState_withQueue hbusy] at e'
  obtain ⟨ws1, acc1, e1⟩ := acceptPush_withQueue s.hasRoom p (edgeState p.msStrobe s)
  obtain ⟨ws2, acc2, e2⟩ := acceptPush_withQueue ({ s with fifo := ws, accepted := acc } : State).hasRoom p'
    ((edgeState p.msStrobe s).withQueue ws acc)
  rw [e, e1, e', e2]
  rfl

/-! ### How often an action writes a channel -/

/-- The number of writes to a channel. -/
def channelCount (recs : List DutyRecord) (ch : Channel) : Nat := (recs.filter fun r => r.ch = ch).length

theorem channelCount_both (tau : Nat) (v : Pct) (ch : Channel) :
    channelCount (both.map fun c => (⟨tau, c, v⟩ : DutyRecord)) ch = 1 := by
  rw [channelCount, length_filter_write, count_both]

/-- The start of an animation writes each channel at most once. -/
theorem channelCount_start_le (s : State) (anim : Anim) (T : Pct) (ch : Channel) :
    channelCount (runRecords (s.beginScript anim T) (script anim T)) ch ≤ 1 := by
  cases anim with
  | off | stby | shake =>
    exact (channelCount_both _ _ ch).le
  | on =>
    show channelCount ((both.map fun c => ⟨s.tau, c, T⟩) ++ []) ch ≤ 1
    rw [List.append_nil]
    exact (channelCount_both _ _ ch).le
  | level =>
    show channelCount [⟨s.tau, .ch1, T⟩, ⟨s.tau, .ch0, _⟩] ch ≤ 1
    cases ch <;> exact le_rfl

/-- So does a tick. -/
theorem channelCount_tick_le (ev : Event) (s : State) (ch : Channel) : channelCount (tickRecords ev s) ch ≤ 1 := by
  unfold tickRecords outputRecords
  split
  · exact (channelCount_both _ _ ch).le
  · split
    · exact Nat.zero_le 1
    · exact channelCount_start_le _ _ _ ch

/-- What follows a primitive that takes time: the SET that ends `A_OFF`, another primitive that takes time, or the end of another
script. -/
theorem script_drop_after_wait {anim : Anim} {T : Pct} {n : Nat} (h : ((script anim T)[n]?).any Prim.waits = true) :
    (anim = .off ∧ (script anim T).drop (n + 1) = [.set both 0])
      ∨ (∃ p ps, (script anim T).drop (n + 1) = p :: ps ∧ p.waits = true)
      ∨ (anim ≠ .off ∧ (script anim T).drop (n + 1) = []) := by
  cases anim with
  | off =>
    match n with
    | 0 => exact .inl ⟨rfl, rfl⟩
    | 1 => cases h
    | n + 2 => simp [script] at h
  | stby | shake =>
    match n with
    | 0 | 1 => exact .inr (.inl ⟨_, _, rfl, rfl⟩)
    | 2 => exact .inr (.inr ⟨Anim.noConfusion, rfl⟩)
    | n + 3 => simp [script] at h
  | on =>
    match n with
    | 0 => cases h
    | n + 1 => simp [script] at h
  | level =>
    match n with
    | 0 => cases h
    | 1 => exact .inr (.inl ⟨_, _, rfl, rfl⟩)
    | 2 => exact .inr (.inr ⟨Anim.noConfusion, rfl⟩)
    | n + 3 => simp [script] at h

/-- Where a running script is, once a wait led there (R155). -/
theorem restOfScript_midScript {s : State} (hpos : s.positionOk = true) (hmid : s.midScript = true) :
    (s.seqAnim = .off ∧ s.restOfScript = [.set both 0])
      ∨ (∃ p ps, s.restOfScript = p :: ps ∧ p.waits = true)
      ∨ (s.seqAnim ≠ .off ∧ s.restOfScript = []) := by
  cases hinr : s.seqInr with
  | true =>
    by_contra hnone
    have hno : s.seqInr = false := not_begun_of_positionOk hpos fun chs a b step ps hr =>
      hnone (.inr (.inl ⟨_, _, hr, rfl⟩))
    exact Bool.noConfusion (hinr.symm.trans hno)
  | false =>
    rw [State.midScript, hinr, Bool.false_or, Bool.and_eq_true, decide_eq_true_eq] at hmid
    have hprev := script_drop_after_wait hmid.2
    rwa [Nat.sub_add_cancel hmid.1] at hprev

/-- The channels that a primitive writes. -/
def Prim.channels : Prim → List Channel
  | .set chs _ => chs
  | .ramp chs _ _ _ => chs
  | .pause _ => []

/-- No primitive of a script names a channel twice. -/
theorem script_channels_nodup (anim : Anim) (T : Pct) : ∀ p ∈ script anim T, p.channels.Nodup := by
  have hboth : both.Nodup := by decide
  cases anim <;> simp [script, Prim.channels, hboth]

/-- The share of a playing animation, by where a wait led: the last SET of `A_OFF`, one primitive of a script that goes on, or
nothing at the end of another script. -/
theorem shareRecords_cases {s : State} (h : s.Inv) (hb : s.seqBusy = true) :
    ((preTick s).seqBusy = false ∧ s.seqAnim = .off ∧ shareRecords s = [⟨s.tau, .ch0, 0⟩, ⟨s.tau, .ch1, 0⟩])
      ∨ ((preTick s).seqBusy = true ∧ ∀ ch, channelCount (shareRecords s) ch ≤ 1)
      ∨ ((preTick s).seqBusy = false ∧ s.seqAnim ≠ .off ∧ shareRecords s = []) := by
  obtain ⟨_, _, hplay, _, hmid, _⟩ := h.busy hb
  obtain ⟨_, hw1, hpos⟩ := playing_iff.1 hplay
  by_cases hw : s.seqWait = 1
  · have hrecs : shareRecords s = runRecords s s.restOfScript := if_pos ⟨hb, hw⟩
    have hbusy : (preTick s).seqBusy = s.restOfScript.any Prim.waits := by
      rw [preTick_seqBusy, hb, hw]; rfl
    rcases restOfScript_midScript hpos hmid with ⟨hoff, hr⟩ | ⟨p, ps, hr, hwaits⟩ | ⟨hoff, hr⟩
    · exact .inl ⟨by rw [hbusy, hr]; rfl, hoff, by rw [hrecs, hr]; rfl⟩
    · refine .inr (.inl ⟨by rw [hbusy, hr, List.any_cons, hwaits, Bool.true_or], fun ch => ?_⟩)
      rw [hrecs, hr]
      cases p with
      | set chs v => cases hwaits
      | pause d => exact Nat.zero_le 1
      | ramp chs a b step =>
        have hmem : Prim.ramp chs a b step ∈ s.restOfScript := hr ▸ List.mem_cons_self
        rw [runRecords, channelCount, length_filter_write]
        exact List.nodup_iff_count_le_one.1 (script_channels_nodup _ _ _ (List.mem_of_mem_drop hmem)) ch
    · exact .inr (.inr ⟨by rw [hbusy, hr]; rfl, hoff, by rw [hrecs, hr]; rfl⟩)
  · have hrecs : shareRecords s = [] := if_neg fun hc => hw hc.2
    have hbusy : (preTick s).seqBusy = true := by
      rw [preTick_seqBusy, hb, bne_iff_ne.2 (sub_ne_zero.2 hw)]; rfl
    exact .inr (.inl ⟨hbusy, fun ch => by rw [hrecs]; exact Nat.zero_le 1⟩)

/-- The next event is a press of Power exactly if the oldest word decodes to it. -/
theorem nextEvent_eq_power_iff (s : State) :
    nextEvent s = .button .power ↔ s.fifo.head?.map decode = some .pressPower := by
  unfold nextEvent
  cases s.fifo with
  | nil => simp
  | cons w ws =>
    rw [List.head?_cons, Option.map_some, Option.some_inj]
    exact eventOf_eq_button (k := .power)

/-- The tick after `A_OFF` writes if it takes a press of Power: the first value of `A_STBY`, which is 0. -/
theorem tickRecords_powerOff (ev : Event) {s : State} (h : s.mode = .powerOff) : tickRecords ev s =
    if ev = .button .power then [⟨s.tau, .ch0, 0⟩, ⟨s.tau, .ch1, 0⟩] else [] := by
  unfold tickRecords
  rw [h]
  split
  · rename_i hev
    rw [hev]
    rfl
  · rename_i hev
    rw [next_powerOff_stays hev]
    rfl

theorem animFor_eq_off {m : Mode} (h : animFor m = some .off) : m = .powerOff := by
  cases m with
  | powerOff => rfl
  | standby | powerOn | panShake | nikomi | levelUp | levelDown => cases h

/-- `A_OFF` ends in this action and its tick takes a press of Power (R256). -/
def State.offEndsInPress (s : State) : Prop :=
  s.seqBusy = true ∧ s.seqAnim = .off ∧ (preTick s).seqBusy = false ∧ s.fifo.head?.map decode = some .pressPower

/-- The writes of an action, and how often it writes a channel (R256). -/
theorem afterAction_records_cases {s : State} (h : s.Inv) : ∃ recs, WritesApplied recs s (afterAction s)
    ∧ ((s.offEndsInPress ∧ recs = [⟨s.tau, .ch0, 0⟩, ⟨s.tau, .ch1, 0⟩, ⟨s.tau, .ch0, 0⟩, ⟨s.tau, .ch1, 0⟩])
      ∨ (¬ s.offEndsInPress ∧ ∀ ch, channelCount recs ch ≤ 1)) := by
  unfold State.offEndsInPress
  cases hb : s.seqBusy with
  | false =>
    have hshare : shareRecords s = [] := if_neg fun hc => Bool.noConfusion (hb.symm.trans hc.1)
    by_cases ht : s.ticks
    · refine ⟨_, afterAction_records_of_ticks ht, .inr ⟨fun hc => Bool.noConfusion hc.1, fun ch => ?_⟩⟩
      rw [hshare, List.nil_append]
      exact channelCount_tick_le _ _ ch
    · refine ⟨_, afterAction_records_of_not_ticks ht, .inr ⟨fun hc => Bool.noConfusion hc.1, fun ch => ?_⟩⟩
      rw [hshare]
      exact Nat.zero_le 1
  | true =>
    have hends : (preTick s).seqBusy = false → s.ticks := fun hidle =>
      ⟨beq_iff_eq.1 (animationEndsOnABoundary s h hb hidle), hidle⟩
    rcases shareRecords_cases h hb with ⟨hidle, hoff, hshare⟩ | ⟨hbusy, hcount⟩ | ⟨hidle, hoff, hshare⟩
    · have hmode : (preTick s).dropOldest.mode = .powerOff := by
        rw [State.dropOldest_mode, preTick_mode]
        exact animFor_eq_off (hoff ▸ (h.busy hb).1)
      have htick := tickRecords_powerOff (nextEvent s) hmode
      rw [State.dropOldest_tau, preTick_tau] at htick
      refine ⟨_, afterAction_records_of_ticks (hends hidle), ?_⟩
      rw [htick, hshare]
      by_cases hpower : nextEvent s = .button .power
      · rw [if_pos hpower]
        exact .inl ⟨⟨rfl, hoff, hidle, (nextEvent_eq_power_iff s).1 hpower⟩, rfl⟩
      · rw [if_neg hpower]
        refine .inr ⟨fun ⟨_, _, _, hword⟩ => hpower ((nextEvent_eq_power_iff s).2 hword), fun ch => ?_⟩
        exact (channelCount_both s.tau 0 ch).le
    · refine ⟨_, afterAction_records_of_not_ticks fun ht => Bool.noConfusion (hbusy.symm.trans ht.2), .inr ⟨?_, hcount⟩⟩
      rw [hbusy]
      exact fun ⟨_, _, hidle, _⟩ => Bool.noConfusion hidle
    · refine ⟨_, afterAction_records_of_ticks (hends hidle), .inr ⟨fun hc => hoff hc.2.1, fun ch => ?_⟩⟩
      rw [hshare, List.nil_append]
      exact channelCount_tick_le _ _ ch

/-- Settles O31: the one case has four records, two of each channel; in the others a channel has one at most. -/
theorem severalWritesOnlyWhenPowerOffEnds : Obligations.SeveralWritesOnlyWhenPowerOffEnds := by
  intro s t hinv h ch
  rw [msAction_eq] at h
  injection h with h
  obtain ⟨recs, hw, hcases⟩ := afterAction_records_cases hinv
  have hnew : t.dutyTrace.drop s.dutyTrace.length = recs := by rw [← h, hw.1, List.drop_left]
  rw [hnew]
  rcases hcases with ⟨hends, hrecs⟩ | ⟨hnot, hcount⟩
  · have htwo : 1 < (recs.filter fun r => r.ch = ch).length := by
      rw [hrecs]
      cases ch <;> exact Nat.lt_succ_self 1
    exact ⟨⟨fun _ => hends, fun _ => htwo⟩, fun _ => hrecs⟩
  · have hone : ¬ 1 < (recs.filter fun r => r.ch = ch).length := not_lt.2 (hcount ch)
    exact ⟨⟨fun hc => absurd hc hone, fun hc => absurd hc hnot⟩, fun hc => absurd hc hone⟩

end Sys2Proof.Machine
end

section
/-! The flicker generator: its step, its index, and the contents of its ROM (42_flicker.md R181, R184 to R189). The ROM is taken
as the list of its rows, and a row is counted and added up without being taken apart (`Laws/Flicker`). -/

namespace Sys2Proof.Machine

/-! ### The step -/

theorem flickIndex_add_one (t : FlickIndex) : t + 1 = BitVec.ofNat 16 ((t.toNat + 1) % 2 ^ 16) :=
  BitVec.eq_of_toNat_eq (by rw [BitVec.toNat_add, BitVec.toNat_ofNat, Nat.mod_mod]; rfl)

theorem flick_zero : (flick 0).toNat = 13 := by decide +kernel

theorem flick_last : (flick 65535).toNat = 84 := by decide +kernel

/-- Settles O32: the step writes both channels and moves the index. -/
theorem flickerStepResult : Obligations.FlickerStepResult := by
  refine ⟨fun s => ?_, flick_zero, flick_last, by decide⟩
  rw [flickerStep, (writeRecordsEveryChannel s _).1, ← flickIndex_add_one]
  rfl

theorem flickerStep_dutyTrace (s : State) : (flickerStep s).dutyTrace
    = s.dutyTrace ++ [⟨s.tau, .ch0, flick s.flickT⟩, ⟨s.tau, .ch1, flick s.flickT⟩] := (flickerStep_writesApplied s).1

theorem iterate_flickerStep_tau (s : State) (n : Nat) : (flickerStep^[n] s).tau = s.tau := by
  induction n with
  | zero => rfl
  | succ n ih => rw [Function.iterate_succ_apply', flickerStep_tau, ih]

theorem iterate_flickerStep_flickT (s : State) (n : Nat) :
    (flickerStep^[n] s).flickT = BitVec.ofNat 16 (s.flickT.toNat + n) := by
  induction n with
  | zero => simp
  | succ n ih =>
    rw [Function.iterate_succ_apply', flickerStep_flickT, ih, ← Nat.add_assoc, BitVec.ofNat_add _ 1]
    rfl

theorem iterate_flickerStep_dutyTrace (s : State) (n : Nat) : (flickerStep^[n] s).dutyTrace = s.dutyTrace ++
    ((List.range n).flatMap fun k =>
      [⟨s.tau, .ch0, flick (BitVec.ofNat 16 (s.flickT.toNat + k))⟩,
        ⟨s.tau, .ch1, flick (BitVec.ofNat 16 (s.flickT.toNat + k))⟩]) := by
  induction n with
  | zero => simp
  | succ n ih =>
    rw [Function.iterate_succ_apply', flickerStep_dutyTrace, ih, iterate_flickerStep_tau, iterate_flickerStep_flickT,
      List.range_succ, List.flatMap_append, List.flatMap_singleton, List.append_assoc]

/-- Settles O35: by induction on the number of steps; `2^16` more is the same index. -/
theorem flickerSequenceIsPeriodic : Obligations.FlickerSequenceIsPeriodic := by
  refine fun s n => ⟨?_, iterate_flickerStep_dutyTrace s n, ?_⟩
  · rw [iterate_flickerStep_flickT, BitVec.toNat_ofNat]
  · rw [iterate_flickerStep_flickT]
    refine BitVec.eq_of_toNat_eq ?_
    rw [BitVec.toNat_ofNat, Nat.add_mod_right, Nat.mod_eq_of_lt s.flickT.isLt]

/-! ### The index -/

/-- A tick's output action moves the flicker index in Nikomi only, and writes the entry before it (R181, R188). -/
theorem OutputAction.flickT_cases {s t : State} (h : OutputAction s t) :
    t.flickT = s.flickT ∨ (t.mode = .nikomi ∧ t.flickT.toNat = (s.flickT.toNat + 1) % 2 ^ 16
      ∧ t.duty0 = flick s.flickT ∧ t.duty1 = flick s.flickT) := by
  unfold OutputAction at h
  split at h
  · rename_i hmode
    obtain ⟨⟨_, hd0, hd1, _⟩, hflick, _⟩ := h
    exact .inr ⟨hmode, hflick, hd0, hd1⟩
  · split at h
    · obtain ⟨_, _, _, _, hflick⟩ := h
      exact .inl hflick
    · exact .inl h.2.1

/-- So does a millisecond action. -/
theorem afterAction_flickT_cases (s : State) :
    (afterAction s).flickT = s.flickT ∨ (s.ticks ∧ (afterAction s).mode = .nikomi
      ∧ (afterAction s).flickT.toNat = (s.flickT.toNat + 1) % 2 ^ 16
      ∧ (afterAction s).duty0 = flick s.flickT ∧ (afterAction s).duty1 = flick s.flickT) := by
  obtain ⟨u, ⟨ht, hout, _⟩ | ⟨_, rfl⟩, e⟩ := afterAction_cases s
  · rw [e, ← preTick_flickT s]
    exact hout.flickT_cases.imp id fun h => ⟨ht, h⟩
  · rw [e]
    exact .inl (preTick_flickT s)

/-- Settles O33: at a strobe by the action, at any other edge nothing moves it. -/
theorem flickerIndexMovesOnlyInNikomi : Obligations.FlickerIndexMovesOnlyInNikomi := by
  intro s t hrst h
  cases hstrobe : (nextPort s).1.msStrobe with
  | true =>
    obtain ⟨_, _, rfl⟩ := step_at_strobe h hrst hstrobe
    have hcases := afterAction_flickT_cases (nextPort s).2.clearWe
    rw [ticks_strobe, State.clearWe_flickT, nextPort_flickT] at hcases
    simp only [acceptPush_flickT, acceptPush_mode, acceptPush_duty0, acceptPush_duty1]
    exact hcases.imp id fun ⟨ht, hmode, hflick, hduty⟩ => ⟨hmode, ht.1, trivial, hflick, hduty⟩
  | false =>
    obtain ⟨_, rfl⟩ := step_off_strobe h hrst hstrobe
    exact .inl (by simp)

/-! ### The rows of the ROM -/

/-- The entries of a list of rows, in index order. -/
def entriesOf (rows : List Nat) : List Nat := rows.flatMap rowEntries

theorem flick_list_rows :
    ((List.range 65536).map fun t => (flick (BitVec.ofNat 16 t)).toNat) = entriesOf flickPages.flatten := by
  rw [flick_list, entriesOf, List.flatten_eq_flatMap, List.flatMap_assoc]
  rfl

theorem rowOk_of_mem {r : Nat} (h : r ∈ flickPages.flatten) : rowOk r = true := by
  obtain ⟨page, hpage, hr⟩ := List.mem_flatten.1 h
  exact List.all_eq_true.1 (List.all_eq_true.1 flickPages_rowOk page hpage) r hr

theorem rowEntries_length (r : Nat) : (rowEntries r).length = 64 := by simp [rowEntries]

theorem entriesOf_length (rows : List Nat) : (entriesOf rows).length = 64 * rows.length := by
  simp [entriesOf, rowEntries_length, Nat.mul_comm]

theorem entriesOf_append (a b : List Nat) : entriesOf (a ++ b) = entriesOf a ++ entriesOf b := List.flatMap_append

/-- How often a value occurs in some rows. -/
def rowsCount (v : Nat) (rows : List Nat) : Nat := (rows.map fun r => rowGe v r - rowGe (v + 1) r).sum

theorem rowsCount_eq {v : Nat} (hv : v < 128) {rows : List Nat} (h : ∀ r ∈ rows, rowOk r = true) :
    rowsCount v rows = (entriesOf rows).count v := by
  rw [entriesOf, List.count_flatMap, rowsCount]
  congr 1
  refine List.map_congr_left fun r hr => ?_
  have := rowEntries_count hv (h r hr)
  simp only [Function.comp_apply]
  omega

theorem rowSums_eq {rows : List Nat} (h : ∀ r ∈ rows, rowOk r = true) :
    (rows.map rowSum).sum = (entriesOf rows).sum := by
  rw [entriesOf, List.flatMap_def, List.sum_flatten, List.map_map]
  exact congrArg List.sum (List.map_congr_left fun r hr => rowSum_eq (h r hr))

/-! ### The contents of the ROM -/

/-- The rows of the four parts, one after the other (R186). -/
theorem flickPages_flatten : flickPages.flatten
    = flickPart0.flatten ++ (flickPart1.flatten ++ (flickPart2.flatten ++ flickPart3.flatten)) := by
  simp only [flickPages, List.flatten_append, List.append_assoc]

theorem flickPart_lengths : flickPart0.flatten.length = 256 ∧ flickPart1.flatten.length = 256
    ∧ flickPart2.flatten.length = 256 := by decide +kernel

theorem flickPart_rowSums : (flickPart0.flatten.map rowSum).sum = 381691 ∧ (flickPart1.flatten.map rowSum).sum = 381193
    ∧ (flickPart2.flatten.map rowSum).sum = 381030 ∧ (flickPart3.flatten.map rowSum).sum = 378544 := by decide +kernel

/-- The sums of the four parts' entries (R186). -/
theorem flickPart_sums : (entriesOf flickPart0.flatten).sum = 381691 ∧ (entriesOf flickPart1.flatten).sum = 381193
    ∧ (entriesOf flickPart2.flatten).sum = 381030 ∧ (entriesOf flickPart3.flatten).sum = 378544 := by
  have hok : ∀ r ∈ flickPart0.flatten ++ (flickPart1.flatten ++ (flickPart2.flatten ++ flickPart3.flatten)),
      rowOk r = true := by
    rw [← flickPages_flatten]
    exact fun r => rowOk_of_mem
  simp only [List.forall_mem_append] at hok
  obtain ⟨h0, h1, h2, h3⟩ := hok
  rw [← rowSums_eq h0, ← rowSums_eq h1, ← rowSums_eq h2, ← rowSums_eq h3]
  exact flickPart_rowSums

/-- The entries of the ROM, part by part. -/
theorem rom_parts : entriesOf flickPages.flatten = entriesOf flickPart0.flatten ++ (entriesOf flickPart1.flatten
    ++ (entriesOf flickPart2.flatten ++ entriesOf flickPart3.flatten)) := by
  simp only [flickPages_flatten, entriesOf_append]

/-- A list cut at the ends of its four parts. -/
theorem take_drop_parts {a b c d : List Nat} {n : Nat} (ha : a.length = n) (hb : b.length = n) (hc : c.length = n) :
    (a ++ (b ++ (c ++ d))).take n = a ∧ ((a ++ (b ++ (c ++ d))).drop n).take n = b
      ∧ ((a ++ (b ++ (c ++ d))).drop (n + n)).take n = c ∧ (a ++ (b ++ (c ++ d))).drop (n + (n + n)) = d := by
  have hdrop1 : (a ++ (b ++ (c ++ d))).drop n = b ++ (c ++ d) := List.drop_left' ha
  have hdrop2 : (b ++ (c ++ d)).drop n = c ++ d := List.drop_left' hb
  refine ⟨List.take_left' ha, ?_, ?_, ?_⟩
  · rw [hdrop1, List.take_left' hb]
  · rw [← List.drop_drop, hdrop1, hdrop2, List.take_left' hc]
  · rw [← List.drop_drop, ← List.drop_drop, hdrop1, hdrop2, List.drop_left' hc]

/-- The sums of the four parts and of the whole (R186). -/
theorem rom_sums {rom : List Nat} (hrom : rom = entriesOf flickPages.flatten) :
    (rom.take 16384).sum = 381691 ∧ ((rom.drop 16384).take 16384).sum = 381193
      ∧ ((rom.drop 32768).take 16384).sum = 381030 ∧ (rom.drop 49152).sum = 378544 ∧ rom.sum = 1522458 := by
  obtain ⟨h0, h1, h2, h3⟩ := flickPart_sums
  obtain ⟨l0, l1, l2⟩ := flickPart_lengths
  obtain ⟨p0, p1, p2, p3⟩ := take_drop_parts (n := 16384) (d := entriesOf flickPart3.flatten)
    ((entriesOf_length _).trans (by rw [l0])) ((entriesOf_length _).trans (by rw [l1]))
    ((entriesOf_length _).trans (by rw [l2]))
  rw [rom_parts] at hrom
  rw [← hrom] at p0 p1 p2 p3
  refine ⟨by rw [p0, h0], by rw [p1, h1], by rw [p2, h2], by rw [p3, h3], ?_⟩
  rw [hrom, List.sum_append, List.sum_append, List.sum_append, h0, h1, h2, h3]

theorem rowsCount_10_100 : rowsCount 10 flickPages.flatten = 43838 ∧ rowsCount 100 flickPages.flatten = 5795 := by
  decide +kernel

/-- The least and the greatest value, counted (R185). -/
theorem rom_counts : (entriesOf flickPages.flatten).count 10 = 43838 ∧ (entriesOf flickPages.flatten).count 100 = 5795 := by
  rw [← rowsCount_eq (by decide) fun r => rowOk_of_mem, ← rowsCount_eq (by decide) fun r => rowOk_of_mem]
  exact rowsCount_10_100

theorem rows_ge_10 : (flickPages.all fun p => p.all fun r => Nat.beq (rowGe 10 r) 64) = true := by decide +kernel

/-- Each value from 10 to 100 has a row with fewer entries above it than from it on. -/
theorem rows_have_all_values : ((List.range 91).all fun k => flickPages.any fun p => p.any fun r =>
    Nat.blt (rowGe (k + 11) r) (rowGe (k + 10) r)) = true := by decide +kernel

/-- The values of the ROM are the entries of its rows. -/
theorem mem_rom_iff (n : Nat) : n ∈ entriesOf flickPages.flatten ↔ ∃ t : FlickIndex, (flick t).toNat = n := by
  rw [← flick_list_rows]
  constructor
  · intro h
    obtain ⟨t, _, ht⟩ := List.mem_map.1 h
    exact ⟨_, ht⟩
  · rintro ⟨t, rfl⟩
    exact List.mem_map.2 ⟨t.toNat, List.mem_range.2 t.isLt, by rw [BitVec.ofNat_toNat, BitVec.setWidth_eq]⟩

theorem flick_ge_10 (t : FlickIndex) : 10 ≤ (flick t).toNat := by
  obtain ⟨r, hr, hmem⟩ := List.mem_flatMap.1 ((mem_rom_iff _).2 ⟨t, rfl⟩)
  obtain ⟨page, hpage, hrow⟩ := List.mem_flatten.1 hr
  have hge : rowGe 10 r = 64 :=
    Nat.eq_of_beq_eq_true (List.all_eq_true.1 (List.all_eq_true.1 rows_ge_10 page hpage) r hrow)
  rw [rowGe_eq (by decide) (rowOk_of_mem hr), ← rowEntries_length r, List.countP_eq_length] at hge
  exact of_decide_eq_true (hge _ hmem)

theorem exists_flick_eq {n : Nat} (h10 : 10 ≤ n) (h100 : n ≤ 100) : ∃ t : FlickIndex, (flick t).toNat = n := by
  have hrow := List.all_eq_true.1 rows_have_all_values (n - 10) (List.mem_range.2 (by omega))
  obtain ⟨page, hpage, hrow⟩ := List.any_eq_true.1 hrow
  obtain ⟨r, hr, hlt⟩ := List.any_eq_true.1 hrow
  have hmem : r ∈ flickPages.flatten := List.mem_flatten.2 ⟨page, hpage, hr⟩
  rw [show n - 10 + 11 = n + 1 by omega, show n - 10 + 10 = n by omega] at hlt
  have hlt' : rowGe (n + 1) r < rowGe n r := by simpa [Nat.blt_eq] using hlt
  have hcount := rowEntries_count (v := n) (by omega) (rowOk_of_mem hmem)
  refine (mem_rom_iff n).1 (List.mem_flatMap.2 ⟨r, hmem, List.count_pos_iff.1 (by omega)⟩)

/-- The values of the ROM are those from 10 to 100 (R185). -/
theorem exists_flick_iff (v : Pct) : (∃ t : FlickIndex, flick t = v) ↔ 10 ≤ v.toNat ∧ v.toNat ≤ 100 := by
  constructor
  · rintro ⟨t, rfl⟩
    exact ⟨flick_ge_10 t, flick_le_100 t⟩
  · rintro ⟨h10, h100⟩
    obtain ⟨t, ht⟩ := exists_flick_eq h10 h100
    exact ⟨t, BitVec.eq_of_toNat_eq ht⟩

theorem flick_first_80 : ((List.range 80).map fun t => (flick (BitVec.ofNat 16 t)).toNat) =
    [13, 15, 18, 20, 24, 27, 31, 34, 39, 43, 48, 52, 58, 63, 68, 74, 80, 86, 92, 98]
      ++ List.replicate 42 100 ++ [93, 84, 75, 65, 56, 47, 38, 29, 20, 11] ++ List.replicate 8 10 := by decide +kernel

theorem flick_samples : ∀ r ∈ flickSamples, (flick (BitVec.ofNat 16 r.1)).toNat = r.2 := by decide +kernel

/-- Settles O34: range, counts and sums from the rows, the samples by reading them. -/
theorem flickerRomContents : Obligations.FlickerRomContents := by
  refine ⟨exists_flick_iff, fun rom hrom => ?_⟩
  have hrows : rom = entriesOf flickPages.flatten := hrom.trans flick_list_rows
  obtain ⟨h10, h100⟩ := rom_counts
  obtain ⟨h0, h1, h2, h3, hall⟩ := rom_sums hrows
  refine ⟨by rw [hrows, h10], by rw [hrows, h100], h0, h1, h2, h3, hall, ?_, flick_samples⟩
  rw [hrom, ← List.map_take, List.take_range, Nat.min_eq_left (by decide), flick_first_80]

end Sys2Proof.Machine
end

section
/-! The ROM is the waveform, at every index (42_flicker.md R182, R186). Two points of the unit circle follow the angles `x(t)` and
`19/5 x(t)` from index to index by one turn each (`CirclePoint.near_mul`); the factor at `2 x(t)` is `2 sin x cos x`. The kernel
follows them over the natural numbers, each coordinate shifted to be positive, with the operations it evaluates at once
(`Nat.add` and the like), a page of 1024 indices at a time. Index 0 is the one tie, and is settled by itself. -/

namespace Sys2Proof.Machine

theorem fixScale_pos : 0 < fixScale := Nat.two_pow_pos 200

/-! ### Coordinates over the naturals -/

/-- What a coordinate of a point is shifted by, so that it is positive. -/
def trackOffset : Nat := 4 * fixScale

/-- `x` and `y` are the shifted coordinates of the point `p`. -/
def Holds (x y : Nat) (p : CirclePoint) : Prop := (x : Int) = p.re + trackOffset ∧ (y : Int) = p.im + trackOffset

/-- The first coordinate of a point turned by the angle of a point `(a, b)`. -/
def turnRe (a b x y : Nat) : Nat :=
  Nat.div (Nat.sub (Nat.add (Nat.mul a x) (Nat.mul trackOffset (Nat.sub (Nat.add fixScale b) a))) (Nat.mul b y)) fixScale

/-- The second coordinate. -/
def turnIm (a b x y : Nat) : Nat :=
  Nat.div (Nat.sub (Nat.add (Nat.mul a y) (Nat.mul b x)) (Nat.mul trackOffset (Nat.sub (Nat.add a b) fixScale))) fixScale

theorem turnRe_eq (a b x y : Nat) :
    turnRe a b x y = (a * x + trackOffset * (fixScale + b - a) - b * y) / fixScale := rfl

theorem turnIm_eq (a b x y : Nat) :
    turnIm a b x y = (a * y + b * x - trackOffset * (a + b - fixScale)) / fixScale := rfl

/-- A point with coordinates of at most twice the unit, which is where the points near the unit circle are. -/
def CirclePoint.Small (p : CirclePoint) : Prop := |p.re| ≤ 2 * fixScale ∧ |p.im| ≤ 2 * fixScale

/-- A number `m` with `m + k D` in it, divided by `D`. -/
theorem cast_div_fixScale {n : Nat} {m : Int} (h : (n : Int) = m + trackOffset * fixScale) :
    ((n / fixScale : Nat) : Int) = m / fixScale + trackOffset := by
  rw [Int.natCast_ediv, h, Int.add_mul_ediv_right _ _ (by exact_mod_cast fixScale_pos.ne')]

/-- The products of small coordinates with those of a turn stay within the shift. -/
theorem neg_le_turn {a b : Nat} {x y : Int} (ha : a ≤ fixScale) (hb : b ≤ fixScale) (hx : |x| ≤ 2 * fixScale)
    (hy : |y| ≤ 2 * fixScale) : 0 ≤ a * x + b * y + trackOffset * fixScale := by
  have hbound : ∀ {c : Nat} {z : Int}, c ≤ fixScale → |z| ≤ 2 * fixScale → -(2 * fixScale * fixScale) ≤ c * z := by
    intro c z hc hz
    have hc' : (c : Int) ≤ fixScale := by exact_mod_cast hc
    have hc0 : (0 : Int) ≤ c := Int.natCast_nonneg c
    have hz' := (abs_le.1 hz).1
    nlinarith
  have h1 := hbound ha hx
  have h2 := hbound hb hy
  have hoff : (trackOffset : Int) = 4 * fixScale := by simp [trackOffset]
  rw [hoff]
  linarith

/-- Turning the shifted coordinates is `CirclePoint.mul`. -/
theorem Holds.turn {x y a b : Nat} {p q : CirclePoint} (h : Holds x y p) (hp : p.Small) (hre : q.re = a) (him : q.im = b)
    (ha : a ≤ fixScale) (hb : b ≤ fixScale) (hab : fixScale ≤ a + b) :
    Holds (turnRe a b x y) (turnIm a b x y) (p.mul q) := by
  obtain ⟨hx, hy⟩ := h
  have hneg : |-p.im| ≤ 2 * fixScale := by rw [abs_neg]; exact hp.2
  have hnonneg1 := neg_le_turn ha hb hp.1 hneg
  have hnonneg2 := neg_le_turn ha hb hp.2 hp.1
  constructor
  · rw [turnRe_eq]
    refine cast_div_fixScale (m := p.re * q.re - p.im * q.im) ?_
    have hval : (a * x + trackOffset * ((fixScale + b : Nat) - a : Int) - b * y : Int)
        = p.re * q.re - p.im * q.im + trackOffset * fixScale := by
      rw [hx, hy, hre, him]; push_cast; ring
    rw [← hval, Nat.cast_sub, Nat.cast_add, Nat.cast_mul, Nat.cast_mul, Nat.cast_mul, Nat.cast_sub (by omega)]
    zify [show a ≤ fixScale + b by omega]
    rw [hx, hy]
    linarith
  · rw [turnIm_eq]
    refine cast_div_fixScale (m := p.im * q.re + p.re * q.im) ?_
    have hval : (a * y + b * x - trackOffset * ((a + b : Nat) - fixScale : Int) : Int)
        = p.im * q.re + p.re * q.im + trackOffset * fixScale := by
      rw [hx, hy, hre, him]; push_cast; ring
    rw [← hval, Nat.cast_sub, Nat.cast_add, Nat.cast_mul, Nat.cast_mul, Nat.cast_mul, Nat.cast_sub hab]
    zify [hab]
    rw [hx, hy]
    linarith

/-! ### Following the two angles -/

/-- The point at the angle between two indices, `1 / 75`. -/
def slowTurn : CirclePoint := unitAngle.times 21 5

/-- The point at 19/5 of it. -/
def fastTurn : CirclePoint := unitAngle.times 21 19

/-- The shifted coordinates of the points at `x(t)` and at `19/5 x(t)`. -/
structure Track where
  re : Nat
  im : Nat
  fastRe : Nat
  fastIm : Nat

/-- From one index to the next. -/
def Track.next (s : Track) : Track where
  re := turnRe slowTurn.re.toNat slowTurn.im.toNat s.re s.im
  im := turnIm slowTurn.re.toNat slowTurn.im.toNat s.re s.im
  fastRe := turnRe fastTurn.re.toNat fastTurn.im.toNat s.fastRe s.fastIm
  fastIm := turnIm fastTurn.re.toNat fastTurn.im.toNat s.fastRe s.fastIm

/-- A turn is in the first quadrant, and its error is far below one unit in `2^50`. -/
def CirclePoint.TurnOk (q : CirclePoint) : Prop :=
  0 ≤ q.re ∧ 0 ≤ q.im ∧ q.re.toNat ≤ fixScale ∧ q.im.toNat ≤ fixScale ∧ fixScale ≤ q.re.toNat + q.im.toNat
    ∧ q.err + 3 ≤ 2 ^ 143

theorem slowTurn_ok : slowTurn.TurnOk := by unfold CirclePoint.TurnOk; decide +kernel

theorem fastTurn_ok : fastTurn.TurnOk := by unfold CirclePoint.TurnOk; decide +kernel

/-- The error that a point may have at index `t`. -/
def trackErr (t : Nat) : Nat := 2 ^ 162 + t * 2 ^ 144

theorem trackErr_le {t : Nat} (ht : t ≤ 2 ^ 16) : trackErr t ≤ 2 ^ 163 := by unfold trackErr; omega

/-- `x` and `y` hold a point at the angle `angle`, as near as index `t` asks. -/
def Follows (t : Nat) (angle : ℝ) (x y : Nat) : Prop := ∃ p : CirclePoint, p.Near angle ∧ p.err ≤ trackErr t ∧ Holds x y p

/-- A point near the unit circle is small. -/
theorem CirclePoint.small_of_near {p : CirclePoint} {angle : ℝ} (h : p.Near angle) (he : p.err ≤ fixScale) : p.Small := by
  have hnorm : ‖p.value‖ ≤ 2 * fixScale := by
    have h1 := norm_sub_norm_le p.value (Complex.exp (angle * Complex.I) * (fixScale : ℂ))
    rw [norm_sub_rev, norm_mul, Complex.norm_exp_ofReal_mul_I, one_mul, Complex.norm_natCast] at h1
    have h2 : ‖Complex.exp (angle * Complex.I) * (fixScale : ℂ) - p.value‖ ≤ p.err := h
    have he' : (p.err : ℝ) ≤ fixScale := by exact_mod_cast he
    linarith
  have hre : p.value.re = p.re := by simp [CirclePoint.value]
  have him : p.value.im = p.im := by simp [CirclePoint.value]
  have h1 := (Complex.abs_re_le_norm p.value).trans hnorm
  have h2 := (Complex.abs_im_le_norm p.value).trans hnorm
  rw [hre] at h1
  rw [him] at h2
  exact ⟨by exact_mod_cast h1, by exact_mod_cast h2⟩

/-- One turn follows the angle to the next index. -/
theorem Follows.turn {t x y : Nat} {angle turn : ℝ} {q : CirclePoint} (h : Follows t angle x y) (ht : t < 2 ^ 16)
    (hq : q.Near turn) (hok : q.TurnOk) :
    Follows (t + 1) (angle + turn) (turnRe q.re.toNat q.im.toNat x y) (turnIm q.re.toNat q.im.toNat x y) := by
  obtain ⟨p, hnear, herr, hholds⟩ := h
  obtain ⟨hre0, him0, hre, him, hsum, hqerr⟩ := hok
  have hD : p.err ≤ fixScale := herr.trans ((trackErr_le ht.le).trans (by unfold fixScale; norm_num))
  refine ⟨p.mul q, CirclePoint.near_mul hnear hq, ?_, hholds.turn (CirclePoint.small_of_near hnear hD)
    (Int.toNat_of_nonneg hre0).symm (Int.toNat_of_nonneg him0).symm hre him hsum⟩
  have hcross : p.err * q.err / fixScale ≤ q.err := Nat.div_le_of_le_mul (Nat.mul_le_mul_right _ hD)
  show p.err + q.err + p.err * q.err / fixScale + 3 ≤ trackErr (t + 1)
  unfold trackErr at *
  omega

/-- A track at index `t`. -/
def Track.At (s : Track) (t : Nat) : Prop :=
  Follows t (waveX t) s.re s.im ∧ Follows t (19 / 5 * waveX t) s.fastRe s.fastIm

theorem Track.At.next {s : Track} {t : Nat} (h : s.At t) (ht : t < 2 ^ 16) : s.next.At (t + 1) := by
  have hslow : slowTurn.Near (1 / 75) := by
    have := CirclePoint.near_times unitAngle_near 21 5 (by norm_num)
    rwa [show ((5 : Nat) : ℝ) * (1 / 375) = 1 / 75 by norm_num] at this
  have hfast : fastTurn.Near (19 / 375) := by
    have := CirclePoint.near_times unitAngle_near 21 19 (by norm_num)
    rwa [show ((19 : Nat) : ℝ) * (1 / 375) = 19 / 375 by norm_num] at this
  constructor
  · rw [show waveX (t + 1 : Nat) = waveX t + 1 / 75 by unfold waveX; push_cast; ring]
    have hturn := h.1.turn ht hslow slowTurn_ok
    rw [Track.next]
    exact hturn
  · rw [show 19 / 5 * waveX (t + 1 : Nat) = 19 / 5 * waveX t + 19 / 375 by unfold waveX; push_cast; ring]
    have hturn := h.2.turn ht hfast fastTurn_ok
    rw [Track.next]
    exact hturn

/-! ### The value at one index -/

/-- An integer as a difference of naturals. -/
structure Diff where
  pos : Nat
  neg : Nat

/-- The integer. -/
def Diff.toInt (d : Diff) : Int := d.pos - d.neg

/-- `a - b`. -/
def Diff.of (a b : Nat) : Diff := ⟨Nat.sub a b, Nat.sub b a⟩

/-- The product. -/
def Diff.mul (p q : Diff) : Diff :=
  ⟨Nat.add (Nat.mul p.pos q.pos) (Nat.mul p.neg q.neg), Nat.add (Nat.mul p.pos q.neg) (Nat.mul p.neg q.pos)⟩

theorem Diff.of_toInt (a b : Nat) : (Diff.of a b).toInt = a - b := by
  show (((a - b : Nat) : Int) - ((b - a : Nat) : Int)) = a - b
  omega

theorem Diff.mul_toInt (p q : Diff) : (p.mul q).toInt = p.toInt * q.toInt := by
  show (((p.pos * q.pos + p.neg * q.neg : Nat) : Int) - ((p.pos * q.neg + p.neg * q.pos : Nat) : Int)) = _
  unfold Diff.toInt
  push_cast
  ring

/-- The factor at a track's first angle, in units. -/
def Track.slowFactor (s : Track) : Diff := .of (Nat.add s.im (Nat.div fixScale 2)) trackOffset

/-- The factor at twice that angle, in units squared: `2 sin x cos x + 1/2`. -/
def Track.doubleFactor (s : Track) : Diff :=
  .of (Nat.add (Nat.mul 2 (Nat.mul s.re s.im))
      (Nat.add (Nat.div (Nat.mul fixScale fixScale) 2) (Nat.mul 2 (Nat.mul trackOffset trackOffset))))
    (Nat.mul 2 (Nat.mul trackOffset (Nat.add s.re s.im)))

/-- The factor at a track's second angle, in units. -/
def Track.fastFactor (s : Track) : Diff := .of (Nat.add s.fastIm (Nat.div fixScale 2)) trackOffset

/-- The product of the three factors, in units to the fourth. -/
def Track.product (s : Track) : Diff := (s.slowFactor.mul s.doubleFactor).mul s.fastFactor

/-- One, in units to the fourth. -/
def fixOne : Nat := fixScale ^ 4

/-- A bound on 200 times the error of the product. -/
def trackSlack : Nat := 6400 * fixScale ^ 3 * 2 ^ 163

/-- 100 times `g`, clamped and rounded, is `v` whatever the error. -/
def Diff.roundsTo (g : Diff) (v : Nat) : Bool :=
  (Nat.ble 10 v && Nat.ble v 100)
    && (Nat.beq v 10 || Nat.ble (Nat.add (Nat.mul (Nat.sub (Nat.mul 2 v) 1) fixOne) (Nat.add trackSlack (Nat.mul 200 g.neg)))
      (Nat.mul 200 g.pos))
    && (Nat.beq v 100 || Nat.ble (Nat.succ (Nat.add (Nat.mul 200 g.pos) trackSlack))
      (Nat.add (Nat.mul (Nat.add (Nat.mul 2 v) 1) fixOne) (Nat.mul 200 g.neg)))

/-- The check, over the integers. -/
theorem Diff.roundsTo_iff {g : Diff} {v : Nat} : g.roundsTo v = true ↔ (10 ≤ v ∧ v ≤ 100)
    ∧ (v = 10 ∨ (2 * v - 1 : Int) * fixOne + trackSlack ≤ 200 * g.toInt)
    ∧ (v = 100 ∨ 200 * g.toInt + trackSlack < (2 * v + 1 : Int) * fixOne) := by
  have hlo : 10 ≤ v → ((2 * v - 1) * fixOne + (trackSlack + 200 * g.neg) ≤ 200 * g.pos
      ↔ (2 * v - 1 : Int) * fixOne + trackSlack ≤ 200 * g.toInt) := by
    intro h10
    unfold Diff.toInt
    zify [show 1 ≤ 2 * v by omega]
    constructor <;> intro h <;> linarith
  have hhi : 200 * g.pos + trackSlack + 1 ≤ (2 * v + 1) * fixOne + 200 * g.neg
      ↔ 200 * g.toInt + trackSlack < (2 * v + 1 : Int) * fixOne := by
    unfold Diff.toInt
    zify
    constructor <;> intro h <;> linarith
  have hcheck : g.roundsTo v = true ↔ (10 ≤ v ∧ v ≤ 100)
      ∧ (v = 10 ∨ (2 * v - 1) * fixOne + (trackSlack + 200 * g.neg) ≤ 200 * g.pos)
      ∧ (v = 100 ∨ 200 * g.pos + trackSlack + 1 ≤ (2 * v + 1) * fixOne + 200 * g.neg) := by
    unfold Diff.roundsTo
    rw [Bool.and_eq_true, Bool.and_eq_true, Bool.and_eq_true, Bool.or_eq_true, Bool.or_eq_true, Nat.ble_eq, Nat.ble_eq,
      Nat.ble_eq, Nat.ble_eq, Nat.beq_eq, Nat.beq_eq, and_assoc]
    rfl
  rw [hcheck, hhi]
  exact and_congr_right fun h => and_congr_left fun _ => or_congr_right (hlo h.1)

/-- The coordinates of a point near an angle are near its cosine and sine. -/
theorem CirclePoint.cos_sin_near {p : CirclePoint} {x : ℝ} (h : p.Near x) :
    |Real.cos x * fixScale - p.re| ≤ p.err ∧ |Real.sin x * fixScale - p.im| ≤ p.err := by
  have hre : (Complex.exp (x * Complex.I) * (fixScale : ℂ) - p.value).re = Real.cos x * fixScale - p.re := by
    rw [Complex.exp_mul_I]
    simp [CirclePoint.value, Complex.cos_ofReal_re, Complex.sin_ofReal_im]
  have him : (Complex.exp (x * Complex.I) * (fixScale : ℂ) - p.value).im = Real.sin x * fixScale - p.im := by
    rw [Complex.exp_mul_I]
    simp [CirclePoint.value, Complex.sin_ofReal_re, Complex.cos_ofReal_im]
  exact ⟨hre ▸ (Complex.abs_re_le_norm _).trans h, him ▸ (Complex.abs_im_le_norm _).trans h⟩

theorem cast_fixScale_pos : (0 : ℝ) < fixScale := by exact_mod_cast fixScale_pos

/-- The error of `2 sin x cos x + 1/2`, from a point near the angle `x`. -/
theorem CirclePoint.double_near {p : CirclePoint} {x : ℝ} (h : p.Near x) (he : p.err ≤ fixScale) :
    |(Real.sin (2 * x) + 1 / 2) * fixScale - (2 * p.re * p.im / fixScale + fixScale / 2)| ≤ 6 * p.err := by
  have hD := cast_fixScale_pos
  obtain ⟨hcos, hsin⟩ := CirclePoint.cos_sin_near h
  have hre : |(p.re : ℝ)| ≤ 2 * fixScale := by exact_mod_cast (CirclePoint.small_of_near h he).1
  have hS : |Real.sin x * fixScale| ≤ fixScale := by
    rw [abs_mul, abs_of_pos hD]
    exact mul_le_of_le_one_left hD.le (Real.abs_sin_le_one x)
  have hcross : |Real.sin x * fixScale * (Real.cos x * fixScale) - p.re * p.im| ≤ 3 * fixScale * p.err := by
    have hsplit : Real.sin x * fixScale * (Real.cos x * fixScale) - p.re * p.im
        = Real.sin x * fixScale * (Real.cos x * fixScale - p.re) + p.re * (Real.sin x * fixScale - p.im) := by ring
    have h1 : |Real.sin x * fixScale * (Real.cos x * fixScale - p.re)| ≤ fixScale * p.err := by
      rw [abs_mul]; gcongr
    have h2 : |p.re * (Real.sin x * fixScale - p.im)| ≤ 2 * fixScale * p.err := by
      rw [abs_mul]; gcongr
    rw [hsplit]
    linarith [abs_add_le (Real.sin x * fixScale * (Real.cos x * fixScale - p.re)) (p.re * (Real.sin x * fixScale - p.im))]
  have hscale : (Real.sin (2 * x) + 1 / 2) * fixScale - (2 * p.re * p.im / fixScale + fixScale / 2)
      = 2 * (Real.sin x * fixScale * (Real.cos x * fixScale) - p.re * p.im) / fixScale := by
    rw [Real.sin_two_mul]
    field_simp
    ring
  rw [hscale, abs_div, abs_mul, abs_of_pos hD, abs_two, div_le_iff₀ hD]
  linarith

theorem cast_half_fixScale : ((fixScale / 2 : Nat) : ℝ) = fixScale / 2 :=
  Nat.cast_div_charZero (by decide)

theorem cast_half_fixScale_sq : ((fixScale * fixScale / 2 : Nat) : ℝ) = (fixScale : ℝ) * fixScale / 2 := by
  rw [Nat.cast_div_charZero (by decide), Nat.cast_mul]
  rfl

/-- The sine factor of a coordinate, in units. -/
theorem factor_toInt {y : Nat} {m : Int} (h : (y : Int) = m + trackOffset) :
    ((Diff.of (Nat.add y (Nat.div fixScale 2)) trackOffset).toInt : ℝ) = m + fixScale / 2 := by
  have hint : (Diff.of (Nat.add y (Nat.div fixScale 2)) trackOffset).toInt = m + (fixScale / 2 : Nat) := by
    rw [Diff.of_toInt]
    show ((y + fixScale / 2 : Nat) : Int) - trackOffset = _
    rw [Nat.cast_add, h]
    ring
  rw [hint, ← cast_half_fixScale]
  push_cast
  rfl

/-- The factor at the double angle, in units squared. -/
theorem Track.doubleFactor_toInt {s : Track} {p : CirclePoint} (h : Holds s.re s.im p) :
    (s.doubleFactor.toInt : ℝ) = fixScale * (2 * p.re * p.im / fixScale + fixScale / 2) := by
  obtain ⟨hx, hy⟩ := h
  have hint : s.doubleFactor.toInt = 2 * p.re * p.im + (fixScale * fixScale / 2 : Nat) := by
    rw [Track.doubleFactor, Diff.of_toInt]
    show ((2 * (s.re * s.im) + (fixScale * fixScale / 2 + 2 * (trackOffset * trackOffset)) : Nat) : Int)
      - ((2 * (trackOffset * (s.re + s.im)) : Nat) : Int) = _
    generalize fixScale * fixScale / 2 = half
    push_cast
    rw [hx, hy]
    ring
  have hD := cast_fixScale_pos.ne'
  rw [hint, Int.cast_add, Int.cast_natCast, cast_half_fixScale_sq]
  push_cast
  field_simp

/-- The product of a track's factors is near `g`. -/
theorem Track.product_near {s : Track} {t : Nat} (h : s.At t) (ht : t ≤ 2 ^ 16) :
    200 * |waveG t * fixOne - s.product.toInt| ≤ trackSlack := by
  obtain ⟨⟨p, hp, hpe, hpx⟩, ⟨r, hr, hre, hrx⟩⟩ := h
  have hD := cast_fixScale_pos
  have hmax : (4 * (6 * 2 ^ 163) : Nat) ≤ fixScale := by unfold fixScale; norm_num
  have hpe' := hpe.trans (trackErr_le ht)
  have hre' := hre.trans (trackErr_le ht)
  have e1 : (p.err : ℝ) ≤ 2 ^ 163 := by exact_mod_cast hpe'
  have e3 : (r.err : ℝ) ≤ 2 ^ 163 := by exact_mod_cast hre'
  have hmax' : (4 * (6 * 2 ^ 163) : ℝ) ≤ fixScale := by exact_mod_cast hmax
  have bound : ∀ y : ℝ, |(Real.sin y + 1 / 2) * fixScale| ≤ 3 / 2 * fixScale := by
    intro y
    have h1 := Real.sin_le_one y
    have h2 := Real.neg_one_le_sin y
    rw [abs_mul, abs_of_pos hD]
    gcongr
    rw [abs_le]; constructor <;> linarith
  have hsin : ∀ {q : CirclePoint} {x : ℝ}, q.Near x →
      |(Real.sin x + 1 / 2) * fixScale - (q.im + fixScale / 2)| ≤ q.err := by
    intro q x hq
    rw [show (Real.sin x + 1 / 2) * fixScale - (q.im + fixScale / 2) = Real.sin x * fixScale - q.im by ring]
    exact (CirclePoint.cos_sin_near hq).2
  have hprod := abs_prod_sub_le hD (bound (waveX t)) (bound (2 * waveX t)) ((hsin hp).trans e1)
    ((CirclePoint.double_near hp (by omega)).trans (by linarith : 6 * (p.err : ℝ) ≤ 6 * 2 ^ 163)) ((hsin hr).trans e3)
    hmax' (by linarith) (bound (19 / 5 * waveX t))
  have hone : waveG t * fixOne - s.product.toInt
      = fixScale * ((Real.sin (waveX t) + 1 / 2) * fixScale * ((Real.sin (2 * waveX t) + 1 / 2) * fixScale)
          * ((Real.sin (19 / 5 * waveX t) + 1 / 2) * fixScale)
        - (p.im + fixScale / 2) * (2 * p.re * p.im / fixScale + fixScale / 2) * (r.im + fixScale / 2)) := by
    rw [Track.product, Diff.mul_toInt, Diff.mul_toInt, Int.cast_mul, Int.cast_mul, Track.doubleFactor_toInt hpx,
      Track.slowFactor, factor_toInt hpx.2, Track.fastFactor, factor_toInt hrx.2, waveG, fixOne]
    push_cast
    ring
  rw [hone, abs_mul, abs_of_pos hD]
  have hslack : (trackSlack : ℝ) = 6400 * fixScale ^ 3 * 2 ^ 163 := by
    unfold trackSlack
    push_cast
    norm_num
  rw [hslack]
  have := mul_le_mul_of_nonneg_left hprod hD.le
  linarith

/-- A track that passes the check tells the value of the waveform at its index. -/
theorem waveF_of_roundsTo {s : Track} {t v : Nat} (h : s.At t) (ht : t ≤ 2 ^ 16) (hv : s.product.roundsTo v = true) :
    waveF t = v := by
  obtain ⟨⟨h10, h100⟩, hlo, hhi⟩ := Diff.roundsTo_iff.1 hv
  have hnear := Track.product_near h ht
  have hone : (0 : ℝ) < fixOne := by exact_mod_cast Nat.pow_pos fixScale_pos
  have hpair : |200 * (waveG t * fixOne - s.product.toInt)| ≤ trackSlack := by
    rwa [abs_mul, show |(200 : ℝ)| = 200 by norm_num]
  obtain ⟨hleft, hright⟩ := abs_le.1 hpair
  refine waveF_eq h10 h100 (hlo.imp id fun hlo => ?_) (hhi.imp id fun hhi => ?_)
  · have hlo' : (2 * v - 1 : ℝ) * fixOne + trackSlack ≤ 200 * s.product.toInt := by exact_mod_cast hlo
    have hle : (2 * v - 1 : ℝ) * fixOne ≤ 200 * waveG t * fixOne := by linarith
    linarith [le_of_mul_le_mul_right hle hone]
  · have hhi' : 200 * s.product.toInt + trackSlack < (2 * v + 1 : ℝ) * fixOne := by exact_mod_cast hhi
    have hlt : 200 * waveG t * fixOne < (2 * v + 1 : ℝ) * fixOne := by linarith
    linarith [lt_of_mul_lt_mul_right hlt hone.le]

/-! ### The pages of the ROM -/

/-- The check of the last `n` entries of a row, and `k` of the track after it. -/
def Track.checkRow (row : Nat) (k : Track → Bool) : Nat → Track → Bool
  | 0, s => k s
  | n + 1, s =>
    s.product.roundsTo (Nat.mod (Nat.shiftRight row (Nat.mul 8 n)) 256) && Track.checkRow row k n s.next

/-- The check of some rows. -/
def Track.checkRows : List Nat → Track → Bool
  | [], _ => true
  | row :: rows, s => Track.checkRow row (Track.checkRows rows) 64 s

/-- A row that passes the check has the values of the waveform, and the track goes on. -/
theorem checkRow_sound {row : Nat} {k : Track → Bool} (n : Nat) (s : Track) (t : Nat) (hn : n ≤ 64) (ht : t + n ≤ 2 ^ 16)
    (hs : s.At t) (h : Track.checkRow row k n s = true) :
    (∀ j < n, waveF (t + j) = rowEntry row (64 - n + j)) ∧ ∃ s' : Track, s'.At (t + n) ∧ k s' = true := by
  induction n generalizing s t with
  | zero => exact ⟨fun j hj => absurd hj (Nat.not_lt_zero j), s, hs, h⟩
  | succ n ih =>
    rw [Track.checkRow, Bool.and_eq_true] at h
    obtain ⟨hhere, hrest⟩ := h
    obtain ⟨hvals, s', hs', hk⟩ := ih s.next (t + 1) (by omega) (by omega) (hs.next (by omega)) hrest
    refine ⟨fun j hj => ?_, s', by rwa [show t + (n + 1) = t + 1 + n by omega], hk⟩
    cases j with
    | zero =>
      have hentry : rowEntry row (64 - (n + 1) + 0) = (row >>> (8 * n)) % 256 := by
        rw [rowEntry, show 63 - (64 - (n + 1) + 0) = n by omega]
      rw [hentry]
      exact waveF_of_roundsTo hs (by omega) hhere
    | succ j =>
      rw [show t + (j + 1) = t + 1 + j by omega, hvals j (by omega), show 64 - n + j = 64 - (n + 1) + (j + 1) by omega]

/-- Some rows that pass the check have the values of the waveform. -/
theorem checkRows_sound (rows : List Nat) (s : Track) (t : Nat) (ht : t + 64 * rows.length ≤ 2 ^ 16) (hs : s.At t)
    (h : Track.checkRows rows s = true) :
    ∀ i < rows.length, ∀ j < 64, waveF (t + 64 * i + j) = rowEntry (rows.getD i 0) j := by
  induction rows generalizing s t with
  | nil => exact fun i hi => absurd hi (Nat.not_lt_zero i)
  | cons row rows ih =>
    rw [List.length_cons] at ht
    obtain ⟨hvals, s', hs', hrest⟩ := checkRow_sound 64 s t le_rfl (by omega) hs h
    intro i hi j hj
    cases i with
    | zero => simpa using hvals j hj
    | succ i =>
      have := ih s' (t + 64) (by omega) hs' hrest i (by simpa using hi) j hj
      rwa [show t + 64 + 64 * i + j = t + 64 * (i + 1) + j by omega] at this

/-- The point at `x(t)`, by itself. -/
def slowStart (t : Nat) : CirclePoint := unitAngle.times 21 (5 * t)

/-- The point at `19/5 x(t)`. -/
def fastStart (t : Nat) : CirclePoint := unitAngle.times 21 (19 * t)

/-- A track that begins at index `t`. -/
def Track.start (t : Nat) : Track where
  re := ((slowStart t).re + trackOffset).toNat
  im := ((slowStart t).im + trackOffset).toNat
  fastRe := ((fastStart t).re + trackOffset).toNat
  fastIm := ((fastStart t).im + trackOffset).toNat

/-- The points at index `t` are near enough to begin with. -/
def startOk (t : Nat) : Bool := Nat.ble (slowStart t).err (2 ^ 162) && Nat.ble (fastStart t).err (2 ^ 162)

/-- The coordinates of a point near the unit circle, shifted. -/
theorem follows_of_near {p : CirclePoint} {angle : ℝ} {t : Nat} (h : p.Near angle) (he : p.err ≤ 2 ^ 162) :
    Follows t angle (p.re + trackOffset).toNat (p.im + trackOffset).toNat := by
  obtain ⟨hre, him⟩ := CirclePoint.small_of_near h (he.trans (by unfold fixScale; norm_num))
  have hoff : (trackOffset : Int) = 4 * fixScale := by simp [trackOffset]
  have hre' := (abs_le.1 hre).1
  have him' := (abs_le.1 him).1
  exact ⟨p, h, he.trans (Nat.le_add_right _ _), Int.toNat_of_nonneg (by omega), Int.toNat_of_nonneg (by omega)⟩

theorem start_at {t : Nat} (ht : t < 2 ^ 16) (h : startOk t = true) : (Track.start t).At t := by
  rw [startOk, Bool.and_eq_true, Nat.ble_eq, Nat.ble_eq] at h
  have hslow := CirclePoint.near_times unitAngle_near 21 (5 * t) (by omega)
  have hfast := CirclePoint.near_times unitAngle_near 21 (19 * t) (by omega)
  rw [show ((5 * t : Nat) : ℝ) * (1 / 375) = waveX t by unfold waveX; push_cast; ring] at hslow
  rw [show ((19 * t : Nat) : ℝ) * (1 / 375) = 19 / 5 * waveX t by unfold waveX; push_cast; ring] at hfast
  exact ⟨follows_of_near hslow h.1, follows_of_near hfast h.2⟩

/-- The check of a page. -/
def checkPage (p : Nat) : Bool :=
  startOk (1024 * p) && Track.checkRows (flickPages.getD p []) (.start (1024 * p))

/-- The check of the first page from index 1 on. -/
def checkFirstPage : Bool :=
  startOk 1 && Track.checkRow (flickRow 0 0) (Track.checkRows (flickPage0000.tail)) 63 (.start 1)

theorem checkFirstPage_true : checkFirstPage = true := by decide +kernel

/-- The check of `n` pages from page `p` on. -/
def checkPages (p n : Nat) : Bool := (List.range' p n).all checkPage

theorem checkPages_1_to_7 : checkPages 1 7 = true := by decide +kernel
theorem checkPages_8_to_15 : checkPages 8 8 = true := by decide +kernel
theorem checkPages_16_to_23 : checkPages 16 8 = true := by decide +kernel
theorem checkPages_24_to_31 : checkPages 24 8 = true := by decide +kernel
theorem checkPages_32_to_39 : checkPages 32 8 = true := by decide +kernel
theorem checkPages_40_to_47 : checkPages 40 8 = true := by decide +kernel
theorem checkPages_48_to_55 : checkPages 48 8 = true := by decide +kernel
theorem checkPages_56_to_63 : checkPages 56 8 = true := by decide +kernel

theorem checkPage_of_checkPages {q n p : Nat} (h : checkPages q n = true) (hq : q ≤ p) (hp : p < q + n) :
    checkPage p = true := List.all_eq_true.1 h p (List.mem_range'_1.2 ⟨hq, hp⟩)

/-- Every page but the first passes the check, eight at a time: what the kernel remembers of one check slows the next. -/
theorem checkPage_true {p : Nat} (h0 : 1 ≤ p) (hp : p < 64) : checkPage p = true := by
  rcases (by omega : p < 8 ∨ (8 ≤ p ∧ p < 16) ∨ (16 ≤ p ∧ p < 24) ∨ (24 ≤ p ∧ p < 32) ∨ (32 ≤ p ∧ p < 40)
    ∨ (40 ≤ p ∧ p < 48) ∨ (48 ≤ p ∧ p < 56) ∨ 56 ≤ p) with h | h | h | h | h | h | h | h
  · exact checkPage_of_checkPages checkPages_1_to_7 h0 h
  · exact checkPage_of_checkPages checkPages_8_to_15 h.1 h.2
  · exact checkPage_of_checkPages checkPages_16_to_23 h.1 h.2
  · exact checkPage_of_checkPages checkPages_24_to_31 h.1 h.2
  · exact checkPage_of_checkPages checkPages_32_to_39 h.1 h.2
  · exact checkPage_of_checkPages checkPages_40_to_47 h.1 h.2
  · exact checkPage_of_checkPages checkPages_48_to_55 h.1 h.2
  · exact checkPage_of_checkPages checkPages_56_to_63 h hp

theorem flickPages_getD_length {p : Nat} (hp : p < 64) : (flickPages.getD p []).length = 16 := by
  obtain ⟨hlen, hall⟩ := flickPages_shape
  have hlt : p < flickPages.length := by rw [hlen]; exact hp
  rw [List.getD_eq_getElem _ _ hlt]
  exact beq_iff_eq.1 (List.all_eq_true.1 hall _ (List.getElem_mem hlt))

/-- The ROM's entry at row `i` and place `j` of page `p`. -/
theorem flick_at {p i j : Nat} (hp : p < 64) (hi : i < 16) (hj : j < 64) :
    (flick (BitVec.ofNat 16 (1024 * p + 64 * i + j))).toNat = rowEntry (flickRow p i) j := by
  have ht : (BitVec.ofNat 16 (1024 * p + 64 * i + j)).toNat = 1024 * p + 64 * i + j := by
    rw [BitVec.toNat_ofNat]; omega
  rw [flick_toNat, ht]
  congr 2 <;> omega

/-- Every page but the first has the values of the waveform. -/
theorem waveF_page {p i j : Nat} (hp0 : 1 ≤ p) (hp : p < 64) (hi : i < 16) (hj : j < 64) :
    waveF (1024 * p + 64 * i + j) = rowEntry (flickRow p i) j := by
  have hcheck := checkPage_true hp0 hp
  rw [checkPage, Bool.and_eq_true] at hcheck
  have hlen := flickPages_getD_length hp
  exact checkRows_sound _ _ _ (by omega) (start_at (by omega) hcheck.1) hcheck.2 i (by omega) j hj

/-- The first page has them from index 1 on. -/
theorem waveF_firstPage {i j : Nat} (hi : i < 16) (hj : j < 64) (h0 : 1 ≤ 64 * i + j) :
    waveF (64 * i + j) = rowEntry (flickRow 0 i) j := by
  have hcheck := checkFirstPage_true
  rw [checkFirstPage, Bool.and_eq_true] at hcheck
  obtain ⟨hfirst, s', hs', hrest⟩ :=
    checkRow_sound 63 (.start 1) 1 (by decide) (by decide) (start_at (by decide) hcheck.1) hcheck.2
  have hlen : flickPage0000.tail.length = 15 := rfl
  cases i with
  | zero =>
    obtain ⟨k, rfl⟩ := Nat.exists_eq_add_of_le (show 1 ≤ j by omega)
    rw [Nat.mul_zero, Nat.zero_add]
    exact hfirst k (by omega)
  | succ i =>
    have := checkRows_sound _ s' 64 (by omega) hs' hrest i (by omega) j hj
    rw [show 64 + 64 * i + j = 64 * (i + 1) + j by omega] at this
    exact this

/-! ### The tie, and every index -/

theorem waveC_zero : 100 * waveC 0 = 25 / 2 := by
  have hg : waveG 0 = 1 / 8 := by
    unfold waveG waveX
    norm_num
  rw [waveC, hg]
  norm_num

theorem waveF_zero : waveF 0 = 13 := by
  rw [waveF, waveC_zero]
  norm_num

/-- Settles O36: all three sines are 0, and 12.5 + 0.5 is 13. -/
theorem waveformTieRoundsUp : Obligations.WaveformTieRoundsUp :=
  ⟨waveC_zero, waveF_zero, flick_zero.trans waveF_zero.symm⟩

/-- Settles O38: index 0 by itself, the rest by pages. -/
theorem romIsTheWaveform : Obligations.RomIsTheWaveform := by
  intro t
  have ht := t.isLt
  obtain ⟨p, i, j, hp, hi, hj, hsum⟩ : ∃ p i j, p < 64 ∧ i < 16 ∧ j < 64 ∧ t.toNat = 1024 * p + 64 * i + j :=
    ⟨t.toNat / 1024, t.toNat / 64 % 16, t.toNat % 64, by omega, by omega, by omega, by omega⟩
  have hflick : (flick t).toNat = rowEntry (flickRow p i) j := by
    rw [← flick_at hp hi hj, ← hsum, BitVec.ofNat_toNat, BitVec.setWidth_eq]
  by_cases h0 : t = 0
  · rw [h0]
    exact flick_zero.trans waveF_zero.symm
  · have hpos : t.toNat ≠ 0 := fun h => h0 (BitVec.eq_of_toNat_eq h)
    rw [hflick, hsum]
    by_cases hp0 : p = 0
    · rw [hp0, Nat.mul_zero, Nat.zero_add]
      exact (waveF_firstPage hi hj (by omega)).symm
    · exact (waveF_page (by omega) hp hi hj).symm

/-- Settles O37: the samples are indices of the ROM. -/
theorem romIsTheWaveformAtTheSamples : Obligations.RomIsTheWaveformAtTheSamples := by
  have hindex : ∀ t ∈ List.range 80 ++ flickSamples.map Prod.fst, t < 2 ^ 16 := by decide
  intro t ht
  have h := romIsTheWaveform (BitVec.ofNat 16 t)
  rwa [BitVec.toNat_ofNat, Nat.mod_eq_of_lt (hindex t ht)] at h

end Sys2Proof.Machine
end
